-- ==== Sys2Proof/Word.lean ====
section
/-! DEFINITION. The value types of the core (00_scope.md R7 and R9): every value is unsigned, one-bit values and line
levels are `Bool` (true is logic 1, high). -/

namespace Sys2Proof

/-- One raw axis reading, `ADC_BITS` = 10 (00_scope.md R7). -/
abbrev Reading := BitVec 10

/-- The contents of RawFrame, `FRAME_BITS` = 24 (00_scope.md R7, 10_state.md R11). -/
abbrev Frame := BitVec 24

/-- The values of TxCounter, 0..20 (10_state.md R13; 93_implementation_defined.md U5 asks for this type). -/
abbrev Count := Fin 21

/-- The dispatch word DW of LINK_STEP (30_encoding.md R52). -/
abbrev DispatchWord := BitVec 6

/-- The debounce key DK (30_encoding.md R53). -/
abbrev DebounceKey := BitVec 2

/-- The trace notation LINKREG (10_state.md R20). -/
abbrev LinkReg := BitVec 10

/-- One byte of a key as the decoder takes it. -/
abbrev Byte := BitVec 8

end Sys2Proof
end

