-- ==== Sys2Proof/Syntax.lean ====
section
/-! DEFINITION. The operations of the core (30_encoding.md R54): one constructor of `Instr` for each row of
spec/opcode_table.json, and the selectors whose keys choose among them. -/

namespace Sys2Proof

/-- The two axes; the selector bit `a` is 0 for X and 1 for Y (30_encoding.md R51). -/
inductive Axis where
  | x
  | y
  deriving DecidableEq, Repr

/-- The operations of format UNC, which no key selects: each is performed whenever its caller reaches it
(30_encoding.md R54). -/
inductive Unselected where
  | pack
  | capture
  | txstep
  | goInactive
  | linkStep
  | wait
  | powerOn
  | run
  deriving DecidableEq, Repr

/-- The format of 30_encoding.md R54, R45 or R48 a key is read in: the keys of different formats share the same
small numbers, so a key means something only together with the dispatching operation that reads it. -/
inductive Selector where
  /-- LNK: the 6-bit dispatch word of LINK_STEP. -/
  | lnk
  /-- TXS: the 1-bit key of TXSTEP. -/
  | txs
  /-- DEB: the 2-bit key of the debounce policy. -/
  | deb
  /-- SMP: the 1-bit axis selector of the sampler. -/
  | smp
  /-- UNC: a zero-width key; the caller names the operation. -/
  | unc (op : Unselected)
  /-- DATA24: the format of RawFrame. -/
  | data24
  /-- DATA21: the format of the wire frame. -/
  | data21
  deriving DecidableEq, Repr

/-- The operations of the core and its two data formats, in the order of spec/opcode_table.json. -/
inductive Instr where
  /-- LNK.IDLE (43_link.md R97). -/
  | lnkIdle
  /-- LNK.ARM (43_link.md R98). -/
  | lnkArm
  /-- LNK.ABORT (43_link.md R99). -/
  | lnkAbort
  /-- LNK.SUPP (43_link.md R100). -/
  | lnkSupp
  /-- LNK.READY (43_link.md R101); its operand `c` is fixed at 1 by the pattern. -/
  | lnkReady
  /-- LNK.STALL (43_link.md R102), `c` the clock level read. -/
  | lnkStall (c : Bool)
  /-- LNK.BIT (43_link.md R103), `c` the clock level read. -/
  | lnkBit (c : Bool)
  /-- LNK.LAST (43_link.md R105), `c` the clock level read. -/
  | lnkLast (c : Bool)
  /-- TX.BIT (42_transmit.md R86). -/
  | txBit
  /-- TX.CHK (42_transmit.md R87). -/
  | txChk
  /-- DEB.SUPPRESS (41_capture.md R73). -/
  | debSuppress
  /-- DEB.RELEASE (41_capture.md R75). -/
  | debRelease
  /-- DEB.TOUCH (41_capture.md R74). -/
  | debTouch
  /-- SAMPLE.X (40_sampler.md R61). -/
  | sampleX
  /-- SAMPLE.Y (40_sampler.md R62). -/
  | sampleY
  /-- PACK (41_capture.md R71), on the readings the samplers returned. -/
  | pack
  /-- CAPTURE (41_capture.md R76). -/
  | capture
  /-- TXSTEP (42_transmit.md R88). -/
  | txstep
  /-- GO_INACTIVE (43_link.md R106). -/
  | goInactive
  /-- LINK_STEP (43_link.md R96). -/
  | linkStep
  /-- WAIT (43_link.md R107). -/
  | wait
  /-- POWER_ON (70_reset_and_hazards.md R140). -/
  | powerOn
  /-- RUN (43_link.md R108). -/
  | run
  /-- RAWFRAME, the format PACK gives RawFrame (30_encoding.md R45). -/
  | rawFrame (x y : Reading)
  /-- WIREFRAME, the 21 bits of one exchange, `k` the last (30_encoding.md R48). -/
  | wireFrame (x y : Reading) (k : Bool)
  deriving DecidableEq, Repr

end Sys2Proof
end

