-- ==== Sys2Proof/Config.lean ====
section
/-! DEFINITION. What an implementation fixes and what the spec leaves open: the sizes the source fixes
(00_scope.md R7), the OPEN parameters of 00_scope.md R8 as constants without a body, and the free values. -/

namespace Sys2Proof

/-- `PAYLOAD_BITS` (00_scope.md R7). -/
def Config.payloadBits : Nat := 20

/-- `WIRE_BITS` (00_scope.md R7). -/
def Config.wireBits : Nat := 21

/-- `TX_LAST`, the TxCounter value that selects the checksum bit (00_scope.md R7). -/
def Config.txLast : Count := 20

/-- The ports that are pins (20_memory.md R31). -/
inductive Config.Port where
  | clk
  | data
  | xp
  | xn
  | yp
  | yn
  deriving DecidableEq, Repr

/-- OPEN `PIN_*` (00_scope.md R8, 92_eei_decisions.md D19): which physical pin carries a port. -/
opaque Config.pin : Config.Port → Nat

/-- OPEN `CH_X`, `CH_Y` (00_scope.md R8, D19): the analog channel selected when an axis is sampled. -/
opaque Config.channel : Axis → Nat

/-- OPEN (D19, 20_memory.md R37): whether the sensing edge of an axis is the edge of the other pair named `…P`. -/
opaque Config.senseOnP : Axis → Bool

/-- OPEN `T_CAPTURE` (00_scope.md R8, D24). No rule depends on it. -/
opaque Config.tCapture : Nat

/-- OPEN `T_STEP` (00_scope.md R8, D24). No rule depends on it. -/
opaque Config.tStep : Nat

/-- OPEN `T_BIT_SETUP` (00_scope.md R8, D24). No rule depends on it. -/
opaque Config.tBitSetup : Nat

/-- OPEN `T_CHK_HOLD` (00_scope.md R8, D14): the time between the two writes of LNK.LAST. No rule depends on it. -/
opaque Config.tChkHold : Nat

/-- OPEN `T_WAKE_CYCLE` (00_scope.md R8, D24). No rule depends on it. -/
opaque Config.tWakeCycle : Nat

/-- Free value: RawFrame after the n-th POWER_ON is unspecified, any 24-bit value (10_state.md R27, U7; log 2). -/
opaque Config.powerOnFrame : Nat → Frame

/-- Free value: TxCounter after TX.BIT performed at 20, for which the spec states no result (91_not_in_source.md N16,
93_implementation_defined.md U5; log 6). -/
opaque Config.txCounterPastLast : Nat → Count

end Sys2Proof
end

