-- ==== Sys2Proof/Machine/State.lean ====
section
/-! DEFINITION. The state of the core as plain data (10_state.md R10), the environment's side of its ports, and the
state after reset (10_state.md R27). -/

namespace Sys2Proof.Machine

/-- The states of the link (10_state.md R15). The fourth 2-bit code names no state (30_encoding.md R55 a). -/
inductive LinkState where
  | inactive
  | capturing
  | transmitting
  deriving DecidableEq, Repr

/-- Whether the core drives the data line (10_state.md R17). -/
inductive DataDir where
  | out
  | float
  deriving DecidableEq, Repr

/-- How the panel edges are driven (10_state.md R18). -/
inductive PanelCfg where
  | idle
  | driveX
  | driveY
  deriving DecidableEq, Repr

/-- What the core is doing: the power states of 60_exceptions.md R136, and the stuck core of 40_sampler.md R64. -/
inductive Activity where
  /-- Inside WAIT (60_exceptions.md R136). -/
  | lowPowerWait
  /-- The wait has returned and its LINK_STEP is next (43_link.md R108). -/
  | running
  /-- Inside SAMPLE of an axis whose conversion never completes (40_sampler.md R64, treatment `stuck`). -/
  | blocked (a : Axis)
  deriving DecidableEq, Repr

/-- The output events of 00_scope.md section 5. -/
inductive Event where
  /-- `DATA_DRIVE(v)` -/
  | dataDrive (v : Bool)
  /-- `DATA_FLOAT` -/
  | dataFloat
  /-- `PANEL_DRIVE(a)` -/
  | panelDrive (a : Axis)
  /-- `PANEL_IDLE` -/
  | panelIdle
  /-- `ADC_CONVERT(a) -> v` -/
  | adcConvert (a : Axis) (v : Reading)
  deriving DecidableEq, Repr

/-- One turn of an agent (20_memory.md R32, R42; log 8). -/
inductive Turn where
  /-- The core performs its next operation. -/
  | core
  /-- The host sets the clock line (20_memory.md R40). -/
  | clk (level : Bool)
  /-- A wake source other than the clock line fires (60_exceptions.md R126). -/
  | wake
  /-- POR is asserted when the core's operation under way has emitted so many events, 0 for between operations
  (70_reset_and_hazards.md R143). -/
  | por (emitted : Nat)
  deriving DecidableEq, Repr

/-- Why the machine would stop with a fault. There is no constructor: "there is no fatal/unrecoverable error path"
(60_exceptions.md R120) and the converter's hardware fault is out of scope (R137). Safe: no claim about a fault can
be made. -/
inductive Fault where
  deriving DecidableEq, Repr

/-- Why an operation has no meaning. -/
inductive Refusal where
  /-- An operation whose meaning is not written yet, by its mnemonic; raised by an arm of `exec` only. No arm raises
  it. Safe. -/
  | notModelled (mnemonic : String)
  /-- The dispatch word selects no arm (30_encoding.md R55 a); raised by `step` only, and unreachable, since `LinkState`
  has three values. Safe. -/
  | reservedDispatchWord
  deriving DecidableEq, Repr

/-- The machine. The first eleven fields are the record of 10_state.md R10; then the power state, the environment's
side of the ports (10_state.md R29), the output trace, and the model's own fields. -/
structure State where
  /-- RawFrame (10_state.md R11). -/
  rawFrame : Frame
  /-- Checksum (10_state.md R12). -/
  checksum : Bool
  /-- TxCounter (10_state.md R13). -/
  txCounter : Count
  /-- DebounceFlag (10_state.md R14). -/
  debounceFlag : Bool
  /-- LinkState (10_state.md R15). -/
  linkState : LinkState
  /-- LastClockLevel (10_state.md R16). -/
  lastClockLevel : Bool
  /-- DataLevel (10_state.md R17). -/
  dataLevel : Bool
  /-- DataDir (10_state.md R17). -/
  dataDir : DataDir
  /-- PanelCfg (10_state.md R18). -/
  panelCfg : PanelCfg
  /-- AdcEnabled (10_state.md R18). -/
  adcEnabled : Bool
  /-- WakePending (10_state.md R19). -/
  wakePending : Bool
  /-- The power state (60_exceptions.md R136). -/
  activity : Activity
  /-- The present level of the clock line (20_memory.md R31). -/
  clk : Bool
  /-- The answers of the environment to the next conversions, in order (20_memory.md R43); when there is none the next
  conversion never completes (40_sampler.md R64; log 5). -/
  adcAnswers : List Reading
  /-- The coming turns of the agents; when there is none the core moves (log 8). -/
  schedule : List Turn
  /-- The output events so far, oldest first (20_memory.md R38 c). -/
  trace : List Event
  /-- MODEL'S OWN: the local X of CAPTURE, the result of SAMPLE.X (log 4). -/
  sampleX : Reading
  /-- MODEL'S OWN: the local Y of CAPTURE, the result of SAMPLE.Y (log 4). -/
  sampleY : Reading
  /-- MODEL'S OWN: the transient result `r` of 10_state.md R23 (log 4). -/
  ready : Bool
  /-- MODEL'S OWN: the transient result `final` of 10_state.md R23 (log 4). -/
  final : Bool
  /-- MODEL'S OWN: how many free values have been drawn (log 2). -/
  draws : Nat
  deriving DecidableEq, Repr

/-- The machine right after power-on (10_state.md R27, 70_reset_and_hazards.md R140, R141): the core in WAIT, the two
events of POWER_ON emitted, nothing queued by the environment. RawFrame is a DESIGN CHOICE (log 1), so are the clock
level and the empty queues (log 3) and the model's own fields (log 2, log 4). -/
def State.reset : State where
  rawFrame := 0
  checksum := false
  txCounter := 0
  debounceFlag := false
  linkState := .inactive
  lastClockLevel := false
  dataLevel := false
  dataDir := .out
  panelCfg := .idle
  adcEnabled := false
  wakePending := false
  activity := .lowPowerWait
  clk := false
  adcAnswers := []
  schedule := []
  trace := [.panelIdle, .dataDrive false]
  sampleX := 0
  sampleY := 0
  ready := false
  final := false
  draws := 0

end Sys2Proof.Machine
end

