-- ==== Sys2Proof/Machine/Flags.lean ====
section
/-! DEFINITION. The one-bit computations of the core (10_state.md R23, 42_transmit.md R93): the selector bits of the
dispatch keys, the checksum, the counter. -/

namespace Sys2Proof.Machine

/-- The edge bit `e = c ^ LastClockLevel` (30_encoding.md R52, 43_link.md R104): either polarity counts. -/
def edgeBit (c last : Bool) : Bool := c ^^ last

/-- The selector `t = (TxCounter == 20)` (30_encoding.md R53). -/
def lastBit (n : Count) : Bool := n == Config.txLast

/-- `nz = (RawFrame != 0)`, the whole 24-bit register (41_capture.md R72). -/
def nonZero (f : Frame) : Bool := f != 0

/-- The debounce key `DK[1:0] = nz f` (41_capture.md R72). -/
def debounceKey (f : Frame) (flag : Bool) : DebounceKey :=
  BitVec.ofBool (nonZero f) ++ BitVec.ofBool flag

/-- `Checksum ^ b` (42_transmit.md R86). -/
def checksumStep (checksum b : Bool) : Bool := checksum ^^ b

/-- The exclusive-or of a list of bits. -/
def parity (bits : List Bool) : Bool := bits.foldl checksumStep false

/-- `TxCounter + 1`, which 42_transmit.md R93 applies below 20 only; at 20 the spec states no result, and `past` stands
for it (log 6). -/
def countStep (n past : Count) : Count := if h : n.val < 20 then ⟨n.val + 1, by omega⟩ else past

end Sys2Proof.Machine
end

