-- ==== Sys2Proof/Machine/Operands.lean ====
section
/-! DEFINITION. The formats of frames, wire and state (30_encoding.md, 10_state.md R20), and what the ports show
(20_memory.md R31, R37, R44). -/

namespace Sys2Proof.Machine

/-- `pack(X, Y) = X[9:0] Y[9:0] 0000` (30_encoding.md R46). -/
def pack (x y : Reading) : Frame := (x ++ y) ++ 0b0000#4

/-- `unpackX(F) = F[23:14]` (30_encoding.md R47). -/
def unpackX (f : Frame) : Reading := f.extractLsb' 14 10

/-- `unpackY(F) = F[13:4]` (30_encoding.md R47). -/
def unpackY (f : Frame) : Reading := f.extractLsb' 4 10

/-- `pad(F) = F[3:0]` (30_encoding.md R47). -/
def pad (f : Frame) : BitVec 4 := f.extractLsb' 0 4

/-- The bytes `B0, B1, B2` of a frame, `B0` the most significant (20_memory.md R34). -/
def frameBytes (f : Frame) : List Byte := [f.extractLsb' 16 8, f.extractLsb' 8 8, f.extractLsb' 0 8]

/-- The bit of a frame that is transmitted next, `RawFrame[23]` (42_transmit.md R86). -/
def frontBit (f : Frame) : Bool := f.getLsbD 23

/-- `RawFrame[22:0] 0` (42_transmit.md R86). -/
def shiftFrame (f : Frame) : Frame := f <<< 1

/-- The twenty payload bits `w1 .. w20` of a frame, `wk = F[24 - k]` (30_encoding.md R48). -/
def payloadBits (f : Frame) : List Bool := (List.range Config.payloadBits).map (fun k => f.getLsbD (23 - k))

/-- The twenty-one wire bits of a frame, the last the XOR of the others (30_encoding.md R48). -/
def wireBits (f : Frame) : List Bool := payloadBits f ++ [parity (payloadBits f)]

/-- The 2-bit code of a link state (30_encoding.md R50). -/
def linkCode : LinkState → BitVec 2
  | .inactive => 0b00#2
  | .capturing => 0b01#2
  | .transmitting => 0b10#2

/-- The link state of a 2-bit code; `0b11` names none (30_encoding.md R55 a). -/
def linkOfCode (code : BitVec 2) : Option LinkState :=
  if code = 0b00#2 then some .inactive
  else if code = 0b01#2 then some .capturing
  else if code = 0b10#2 then some .transmitting
  else none

/-- `DW[5:0] = s[1:0] c e r t` (30_encoding.md R52). -/
def dispatchBits (s : LinkState) (c e r t : Bool) : DispatchWord :=
  (((linkCode s ++ BitVec.ofBool c) ++ BitVec.ofBool e) ++ BitVec.ofBool r) ++ BitVec.ofBool t

/-- The selector bit of an axis (30_encoding.md R51). -/
def axisCode : Axis → BitVec 1
  | .x => 0#1
  | .y => 1#1

/-- The notation `LINKREG` (10_state.md R20): TxCounter, Checksum, DebounceFlag, LastClockLevel, LinkState. -/
def linkreg (s : State) : LinkReg :=
  (((BitVec.ofNat 5 s.txCounter.val ++ BitVec.ofBool s.checksum) ++ BitVec.ofBool s.debounceFlag)
    ++ BitVec.ofBool s.lastClockLevel) ++ linkCode s.linkState

/-- The panel configuration that drives the pair of an axis (10_state.md R18). -/
def PanelCfg.driving : Axis → PanelCfg
  | .x => .driveX
  | .y => .driveY

/-- What one pin of the core does: driven to a level, or not driven. -/
inductive PinDrive where
  | driven (level : Bool)
  | released
  deriving DecidableEq, Repr

/-- What the core does on each port (20_memory.md R31, 40_sampler.md R61, R62): for an axis the edge named `…P` is
driven high and the edge named `…N` low; the clock pin is an input. -/
def pinDrive (s : State) : Config.Port → PinDrive
  | .clk => .released
  | .data => if s.dataDir = .out then .driven s.dataLevel else .released
  | .xp => if s.panelCfg = .driveX then .driven true else .released
  | .xn => if s.panelCfg = .driveX then .driven false else .released
  | .yp => if s.panelCfg = .driveY then .driven true else .released
  | .yn => if s.panelCfg = .driveY then .driven false else .released

/-- The host's view of DATA, `none` for `Z` (20_memory.md R44). -/
def hostView (s : State) : Option Bool := if s.dataDir = .out then some s.dataLevel else none

/-- The edge an axis is sensed on, one of the other pair (20_memory.md R37; which one is OPEN). -/
def sensingEdge (a : Axis) : Config.Port :=
  match a with
  | .x => if Config.senseOnP .x then .yp else .yn
  | .y => if Config.senseOnP .y then .xp else .xn

/-- Whether the pull-up of a port is enabled: none is during a sample (40_sampler.md R61, R62, 92_eei_decisions.md
D11); outside a sample the spec does not say (log 11). -/
def pullUp (s : State) (_ : Config.Port) : Option Bool := if s.panelCfg = .idle then none else some false

end Sys2Proof.Machine
end

