-- ==== Sys2Proof/Machine/Ops.lean ====
section
/-! DEFINITION. The operations shared by the meanings: the port primitives of 20_memory.md R33, then the operations of
40_sampler.md to 43_link.md, leaf first, and the run loop. -/

namespace Sys2Proof.Machine

/-- Append an event to the output trace (00_scope.md section 5). -/
def emit (e : Event) (s : State) : State := { s with trace := s.trace ++ [e] }

/-- `DataDrive(v)` (00_scope.md section 5). -/
def dataDrive (v : Bool) (s : State) : State := emit (.dataDrive v) { s with dataDir := .out, dataLevel := v }

/-- `DataFloat()`: `DataLevel` keeps its value (00_scope.md section 5). -/
def dataFloat (s : State) : State := emit .dataFloat { s with dataDir := .float }

/-- `PanelDrive(a)` (00_scope.md section 5). -/
def panelDrive (a : Axis) (s : State) : State := emit (.panelDrive a) { s with panelCfg := PanelCfg.driving a }

/-- `PanelIdle()` (00_scope.md section 5). -/
def panelIdle (s : State) : State := emit .panelIdle { s with panelCfg := .idle, adcEnabled := false }

/-- `PinRead(CLK)` (20_memory.md R33, R36): no effect on any state. -/
def pinReadClk (s : State) : Bool := s.clk

/-- Drive a list of bits on the data line, in order. -/
def driveBits : List Bool → State → State
  | [], s => s
  | b :: bs, s => driveBits bs (dataDrive b s)

/-- Keep the result of a SAMPLE operation (CAPTURE's `X <- SAMPLE.X()`, `Y <- SAMPLE.Y()`, 41_capture.md R76). -/
def keepReading (a : Axis) (v : Reading) (s : State) : State :=
  match a with
  | .x => { s with sampleX := v }
  | .y => { s with sampleY := v }

/-- SAMPLE up to the conversion (40_sampler.md R61, R62): drive the pair, float the data line, enable the converter. -/
def sampleStart (a : Axis) (s : State) : State := { dataFloat (panelDrive a s) with adcEnabled := true }

/-- SAMPLE from the converter's answer on (40_sampler.md R61, R62, R65): the conversion event, the panel idle and the
converter off, the data line driven again at its level. -/
def sampleFinish (a : Axis) (v : Reading) (s : State) : State :=
  let s := panelIdle (emit (.adcConvert a v) s)
  keepReading a v (dataDrive s.dataLevel s)

/-- `sample(a)` and what follows it. The environment answers the conversion; where it does not, the core never leaves
the operation, and what would follow is never performed (40_sampler.md R64, 93_implementation_defined.md U2). -/
def sampleThen (a : Axis) (s : State) (k : State → State) : State :=
  match s.adcAnswers with
  | [] => { sampleStart a s with activity := .blocked a }
  | v :: rest => k (sampleFinish a v { sampleStart a s with adcAnswers := rest })

/-- PACK (41_capture.md R71), on the readings the samplers returned. -/
def packOp (s : State) : State := { s with rawFrame := pack s.sampleX s.sampleY }

/-- DEB.SUPPRESS (41_capture.md R73): returns 0 and writes nothing else. -/
def debSuppressOp (s : State) : State := { s with ready := false }

/-- DEB.TOUCH (41_capture.md R74). -/
def debTouchOp (s : State) : State := { s with debounceFlag := true, txCounter := 0, ready := true }

/-- DEB.RELEASE (41_capture.md R75). -/
def debReleaseOp (s : State) : State := { s with debounceFlag := false, txCounter := 0, ready := true }

/-- The debounce policy, the case of CAPTURE on `nz f` (41_capture.md R76). -/
def debounceOp (s : State) : State :=
  let key := debounceKey s.rawFrame s.debounceFlag
  if key = 0b00#2 then debSuppressOp s
  else if key = 0b01#2 then debReleaseOp s
  else debTouchOp s

/-- CAPTURE and what follows it (41_capture.md R76): clear the checksum, sample X, sample Y, pack, apply the policy. -/
def captureThen (s : State) (k : State → State) : State :=
  sampleThen .x { s with checksum := false } fun s =>
    sampleThen .y s fun s =>
      k (debounceOp (packOp s))

/-- TX.BIT (42_transmit.md R86). -/
def txBitOp (s : State) : State :=
  let b := frontBit s.rawFrame
  let s := dataDrive b s
  { s with
    checksum := checksumStep s.checksum b
    rawFrame := shiftFrame s.rawFrame
    txCounter := countStep s.txCounter (Config.txCounterPastLast s.draws)
    draws := if lastBit s.txCounter then s.draws + 1 else s.draws
    final := false }

/-- TX.CHK (42_transmit.md R87). -/
def txChkOp (s : State) : State := { dataDrive s.checksum s with final := true }

/-- TXSTEP (42_transmit.md R88). -/
def txStepOp (s : State) : State := if lastBit s.txCounter then txChkOp s else txBitOp s

/-- GO_INACTIVE (43_link.md R106), the whole entry to an abort (60_exceptions.md R128): it saves nothing, keeps
`DebounceFlag` and `RawFrame`, and there is no return from it (60_exceptions.md R129). -/
def goInactiveOp (s : State) : State :=
  { dataDrive false s with txCounter := 0, checksum := false, lastClockLevel := false, linkState := .inactive }

/-- What LNK.READY does after its CAPTURE (43_link.md R101), `c` the level the step read. -/
def readyOp (c : Bool) (s : State) : State :=
  { dataDrive true s with linkState := .transmitting, lastClockLevel := c }

/-- LINK_STEP (43_link.md R96), the text of its pseudocode: one read of the clock line, one arm. -/
def linkStepOp (s : State) : State :=
  let c := pinReadClk s
  match s.linkState with
  | .inactive => if c then { s with linkState := .capturing } else s
  | .capturing =>
    if c then captureThen s (fun s => if s.ready then readyOp c s else s) else goInactiveOp s
  | .transmitting =>
    if edgeBit c s.lastClockLevel then
      let s := txStepOp { s with lastClockLevel := c }
      if s.final then goInactiveOp s else s
    else goInactiveOp s

/-- WAIT (43_link.md R107): returns when `WakePending` is 1 and clears it; until then the core stays in the wait. -/
def waitOp (s : State) : State :=
  if s.wakePending then { s with wakePending := false, activity := .running }
  else { s with activity := .lowPowerWait }

/-- POWER_ON (70_reset_and_hazards.md R140, 10_state.md R27): RawFrame is unspecified, a free value (log 2); the core is
then in WAIT (R141) and whatever it was doing is abandoned (R143). -/
def powerOnOp (s : State) : State :=
  dataDrive false (panelIdle { s with
    debounceFlag := false
    linkState := .inactive
    txCounter := 0
    checksum := false
    lastClockLevel := false
    rawFrame := Config.powerOnFrame s.draws
    draws := s.draws + 1
    wakePending := false
    activity := .lowPowerWait
    sampleX := 0
    sampleY := 0
    ready := false
    final := false })

/-- The end of a LINK_STEP in the run loop (43_link.md R108): WAIT is next, unless the core is stuck in a sample. -/
def endStep (s : State) : State :=
  match s.activity with
  | .blocked _ => s
  | _ => { s with activity := .lowPowerWait }

/-- The core's next operation in the loop of RUN (43_link.md R108). -/
def coreMove (s : State) : State :=
  match s.activity with
  | .blocked _ => s
  | .lowPowerWait => waitOp s
  | .running => endStep (linkStepOp s)

/-- The host sets the clock line; a change of either polarity is a wake condition (20_memory.md R40, 60_exceptions.md
R126). -/
def clkTurn (level : Bool) (s : State) : State :=
  { s with clk := level, wakePending := s.wakePending || (level != s.clk) }

/-- Another wake source fires; conditions coalesce in the one latch (10_state.md R19). -/
def wakeTurn (s : State) : State := { s with wakePending := true }

/-- Whether an event is a completed conversion. -/
def isConversion : Event → Bool
  | .adcConvert _ _ => true
  | _ => false

/-- What is left outside the core of an operation that POR abandons after it has emitted so many events
(70_reset_and_hazards.md R143): those events, and the answers already given. POWER_ON then writes every field of the
core. -/
def abandon (emitted : Nat) (s : State) : State :=
  let out := ((coreMove s).trace.drop s.trace.length).take emitted
  { s with trace := s.trace ++ out, adcAnswers := s.adcAnswers.drop (out.countP isConversion) }

/-- One turn of one agent. -/
def turnOp (t : Turn) (s : State) : State :=
  match t with
  | .core => coreMove s
  | .clk level => clkTurn level s
  | .wake => wakeTurn s
  | .por emitted => powerOnOp (abandon emitted s)

/-- The loop of RUN for as long as the schedule gives turns, and then until the core sleeps: with no further wake it
takes at most three operations, a LINK_STEP under way, a WAIT that returns at once, and its LINK_STEP. -/
def loopOp : List Turn → State → State
  | [], s => coreMove (coreMove (coreMove { s with schedule := [] }))
  | t :: ts, s => loopOp ts (turnOp t { s with schedule := ts })

/-- RUN (43_link.md R108): POWER_ON, then the loop; "the end of a run, for a model, is wherever the environment stops
delivering wakes, with the core in `WAIT`" (log 9). -/
def runOp (s : State) : State := loopOp s.schedule (powerOnOp s)

end Sys2Proof.Machine
end

