-- ==== Sys2Proof/Machine/Capture.lean ====
section
/-! DEFINITION. The Position Capture Sequencer: PACK, the debounce operations and CAPTURE (41_capture.md). -/

namespace Sys2Proof.Machine

/-- PACK (41_capture.md R71). -/
def execPack (s : State) : Host.Outcome State Fault Refusal := .next (packOp s)

/-- DEB.SUPPRESS (41_capture.md R73). -/
def execDebSuppress (s : State) : Host.Outcome State Fault Refusal := .next (debSuppressOp s)

/-- DEB.RELEASE (41_capture.md R75). -/
def execDebRelease (s : State) : Host.Outcome State Fault Refusal := .next (debReleaseOp s)

/-- DEB.TOUCH (41_capture.md R74). -/
def execDebTouch (s : State) : Host.Outcome State Fault Refusal := .next (debTouchOp s)

/-- CAPTURE (41_capture.md R76). -/
def execCapture (s : State) : Host.Outcome State Fault Refusal := .next (captureThen s id)

end Sys2Proof.Machine
end

