-- ==== Sys2Proof/Machine/Formats.lean ====
section
/-! DEFINITION. The two data formats of the operation map (30_encoding.md R45, R48). The spec calls them formats and not
operations; the model gives each the effect whose data it is the format of, and no step of the machine performs one
(log 7). -/

namespace Sys2Proof.Machine

/-- RAWFRAME (30_encoding.md R45): RawFrame as PACK leaves it for these readings. DESIGN CHOICE (log 7). -/
def execRawFrame (x y : Reading) (s : State) : Host.Outcome State Fault Refusal :=
  .next { s with rawFrame := pack x y }

/-- WIREFRAME (30_encoding.md R48): the twenty-one bits driven on the data line, first bit first. DESIGN CHOICE
(log 7). -/
def execWireFrame (x y : Reading) (k : Bool) (s : State) : Host.Outcome State Fault Refusal :=
  .next (driveBits (payloadBits (pack x y) ++ [k]) s)

end Sys2Proof.Machine
end

