-- ==== Sys2Proof/Machine/Link.lean ====
section
/-! DEFINITION. The Link State Machine: the eight arms, GO_INACTIVE and LINK_STEP (43_link.md). An arm is the text its
rule writes out whole, the CAPTURE or TXSTEP call and the write of `LastClockLevel` included (R96), in any state (log 12). -/

namespace Sys2Proof.Machine

/-- LNK.IDLE (43_link.md R97): no state written, no event emitted. -/
def execLnkIdle (s : State) : Host.Outcome State Fault Refusal := .next s

/-- LNK.ARM (43_link.md R98). -/
def execLnkArm (s : State) : Host.Outcome State Fault Refusal := .next { s with linkState := .capturing }

/-- LNK.ABORT (43_link.md R99), the host abort of 60_exceptions.md R122. -/
def execLnkAbort (s : State) : Host.Outcome State Fault Refusal := .next (goInactiveOp s)

/-- LNK.SUPP (43_link.md R100). -/
def execLnkSupp (s : State) : Host.Outcome State Fault Refusal := .next (captureThen s id)

/-- LNK.READY (43_link.md R101); its operand `c` is 1 in every word that selects it. -/
def execLnkReady (s : State) : Host.Outcome State Fault Refusal := .next (captureThen s (readyOp true))

/-- LNK.STALL (43_link.md R102), the clock stall of 60_exceptions.md R123; its text does not use `c`. -/
def execLnkStall (_c : Bool) (s : State) : Host.Outcome State Fault Refusal := .next (goInactiveOp s)

/-- LNK.BIT (43_link.md R103). -/
def execLnkBit (c : Bool) (s : State) : Host.Outcome State Fault Refusal :=
  .next (txStepOp { s with lastClockLevel := c })

/-- LNK.LAST (43_link.md R105): the checksum bit, then the idle level, in one step. -/
def execLnkLast (c : Bool) (s : State) : Host.Outcome State Fault Refusal :=
  .next (goInactiveOp (txStepOp { s with lastClockLevel := c }))

/-- GO_INACTIVE (43_link.md R106). -/
def execGoInactive (s : State) : Host.Outcome State Fault Refusal := .next (goInactiveOp s)

/-- LINK_STEP (43_link.md R96). -/
def execLinkStep (s : State) : Host.Outcome State Fault Refusal := .next (linkStepOp s)

end Sys2Proof.Machine
end

