-- ==== Sys2Proof/Machine/Loop.lean ====
section
/-! DEFINITION. The life of the core: WAIT and RUN (43_link.md R107, R108), POWER_ON (70_reset_and_hazards.md R140). -/

namespace Sys2Proof.Machine

/-- WAIT (43_link.md R107). -/
def execWait (s : State) : Host.Outcome State Fault Refusal := .next (waitOp s)

/-- POWER_ON (70_reset_and_hazards.md R140). -/
def execPowerOn (s : State) : Host.Outcome State Fault Refusal := .next (powerOnOp s)

/-- RUN (43_link.md R108), up to where the environment stops delivering wakes (log 9). -/
def execRun (s : State) : Host.Outcome State Fault Refusal := .next (runOp s)

end Sys2Proof.Machine
end

