-- ==== Sys2Proof/Machine/Sampler.lean ====
section
/-! DEFINITION. The Analog Axis Sampler: SAMPLE.X and SAMPLE.Y (40_sampler.md). -/

namespace Sys2Proof.Machine

/-- SAMPLE.X (40_sampler.md R61, R64). -/
def execSampleX (s : State) : Host.Outcome State Fault Refusal := .next (sampleThen .x s id)

/-- SAMPLE.Y (40_sampler.md R62, R64). -/
def execSampleY (s : State) : Host.Outcome State Fault Refusal := .next (sampleThen .y s id)

end Sys2Proof.Machine
end

