-- ==== Sys2Proof/Machine/Transmit.lean ====
section
/-! DEFINITION. The Frame Transmitter: TX.BIT, TX.CHK and TXSTEP (42_transmit.md). -/

namespace Sys2Proof.Machine

/-- TX.BIT (42_transmit.md R86). -/
def execTxBit (s : State) : Host.Outcome State Fault Refusal := .next (txBitOp s)

/-- TX.CHK (42_transmit.md R87). -/
def execTxChk (s : State) : Host.Outcome State Fault Refusal := .next (txChkOp s)

/-- TXSTEP (42_transmit.md R88). -/
def execTxstep (s : State) : Host.Outcome State Fault Refusal := .next (txStepOp s)

end Sys2Proof.Machine
end

