-- ==== Sys2Proof/Machine/Dispatch.lean ====
section
/-! DEFINITION. The meaning of every operation, one arm per constructor of `Instr`. -/

namespace Sys2Proof.Machine

def exec (i : Instr) (s : State) : Host.Outcome State Fault Refusal :=
  match i with
  | .lnkIdle => Sys2Proof.Machine.execLnkIdle s
  | .lnkArm => Sys2Proof.Machine.execLnkArm s
  | .lnkAbort => Sys2Proof.Machine.execLnkAbort s
  | .lnkSupp => Sys2Proof.Machine.execLnkSupp s
  | .lnkReady => Sys2Proof.Machine.execLnkReady s
  | .lnkStall c => Sys2Proof.Machine.execLnkStall c s
  | .lnkBit c => Sys2Proof.Machine.execLnkBit c s
  | .lnkLast c => Sys2Proof.Machine.execLnkLast c s
  | .txBit => Sys2Proof.Machine.execTxBit s
  | .txChk => Sys2Proof.Machine.execTxChk s
  | .debSuppress => Sys2Proof.Machine.execDebSuppress s
  | .debRelease => Sys2Proof.Machine.execDebRelease s
  | .debTouch => Sys2Proof.Machine.execDebTouch s
  | .sampleX => Sys2Proof.Machine.execSampleX s
  | .sampleY => Sys2Proof.Machine.execSampleY s
  | .pack => Sys2Proof.Machine.execPack s
  | .capture => Sys2Proof.Machine.execCapture s
  | .txstep => Sys2Proof.Machine.execTxstep s
  | .goInactive => Sys2Proof.Machine.execGoInactive s
  | .linkStep => Sys2Proof.Machine.execLinkStep s
  | .wait => Sys2Proof.Machine.execWait s
  | .powerOn => Sys2Proof.Machine.execPowerOn s
  | .run => Sys2Proof.Machine.execRun s
  | .rawFrame x y => Sys2Proof.Machine.execRawFrame x y s
  | .wireFrame x y k => Sys2Proof.Machine.execWireFrame x y k s

end Sys2Proof.Machine
end

