-- ==== Sys2Proof/Decode.lean ====
section
/-! DEFINITION. Dispatch keys and data formats as words (30_encoding.md R45, R48, R50 to R54): the decoder, total on
any bytes, the encoder, and the host's `decodeTableWord`. A key means something only in the format its dispatching
operation reads, so both take or give a `Selector` (log 10). -/

namespace Sys2Proof

/-- Why bytes are no operation. -/
inductive DecodeError where
  /-- The number of bytes is not that of the format's key. -/
  | wrongLength
  /-- A bit above the key is set. -/
  | bitsAboveKey
  /-- A dispatch word `11xxxx`: LinkState code 0b11 names no state (30_encoding.md R55 a). -/
  | reservedLinkState
  /-- A 24-bit frame whose padding is not zero (30_encoding.md R55 c). -/
  | paddingNotZero
  /-- No row of the format matches (no format but LNK and DATA24 has such a key). -/
  | noRow
  deriving DecidableEq, Repr

/-- One row of the operation map: the key `k` selects it when `k &&& mask = value`. -/
structure KeyRow (n : Nat) where
  mask : BitVec n
  value : BitVec n
  build : BitVec n → Instr

/-- Whether a key selects a row. -/
def KeyRow.selects {n : Nat} (r : KeyRow n) (k : BitVec n) : Bool := k &&& r.mask == r.value

/-- The bit `c` of a dispatch word, `DW[3]` (30_encoding.md R52). -/
def dwClock (k : DispatchWord) : Bool := k.getLsbD 3

/-- The eight LNK rows of 30_encoding.md R54, `DW = s s c e r t`. -/
def lnkRows : List (KeyRow 6) := [
  ⟨0b111000#6, 0b000000#6, fun _ => .lnkIdle⟩,
  ⟨0b111000#6, 0b001000#6, fun _ => .lnkArm⟩,
  ⟨0b111000#6, 0b010000#6, fun _ => .lnkAbort⟩,
  ⟨0b111010#6, 0b011000#6, fun _ => .lnkSupp⟩,
  ⟨0b111010#6, 0b011010#6, fun _ => .lnkReady⟩,
  ⟨0b110100#6, 0b100000#6, fun k => .lnkStall (dwClock k)⟩,
  ⟨0b110101#6, 0b100100#6, fun k => .lnkBit (dwClock k)⟩,
  ⟨0b110101#6, 0b100101#6, fun k => .lnkLast (dwClock k)⟩]

/-- The TXS rows (30_encoding.md R54): `t = 0` is TX.BIT, `t = 1` is TX.CHK. -/
def txsRows : List (KeyRow 1) := [
  ⟨0b1#1, 0b0#1, fun _ => .txBit⟩,
  ⟨0b1#1, 0b1#1, fun _ => .txChk⟩]

/-- The DEB rows (30_encoding.md R54): `DK = nz f`. -/
def debRows : List (KeyRow 2) := [
  ⟨0b11#2, 0b00#2, fun _ => .debSuppress⟩,
  ⟨0b11#2, 0b01#2, fun _ => .debRelease⟩,
  ⟨0b10#2, 0b10#2, fun _ => .debTouch⟩]

/-- The SMP rows (30_encoding.md R54): `a = 0` is X, `a = 1` is Y. -/
def smpRows : List (KeyRow 1) := [
  ⟨0b1#1, 0b0#1, fun _ => .sampleX⟩,
  ⟨0b1#1, 0b1#1, fun _ => .sampleY⟩]

/-- The DATA24 row (30_encoding.md R45): `X` in bits 23..14, `Y` in bits 13..4, padding zero. -/
def data24Rows : List (KeyRow 24) := [
  ⟨0x00000F#24, 0x000000#24, fun k => .rawFrame (k.extractLsb' 14 10) (k.extractLsb' 4 10)⟩]

/-- The DATA21 row (30_encoding.md R48), first wire bit leftmost: `X`, `Y`, `k`. -/
def data21Rows : List (KeyRow 21) := [
  ⟨0x000000#21, 0x000000#21, fun k => .wireFrame (k.extractLsb' 11 10) (k.extractLsb' 1 10) (k.getLsbD 0)⟩]

/-- The row of a table that a key selects, applied to the key. -/
def lookup {n : Nat} (rows : List (KeyRow n)) (k : BitVec n) : Option Instr :=
  (rows.find? (fun r => r.selects k)).map (fun r => r.build k)

/-- The operation of format UNC a caller names. -/
def Unselected.instr : Unselected → Instr
  | .pack => .pack
  | .capture => .capture
  | .txstep => .txstep
  | .goInactive => .goInactive
  | .linkStep => .linkStep
  | .wait => .wait
  | .powerOn => .powerOn
  | .run => .run

/-- Width in bits of a format's key (30_encoding.md R54, 00_scope.md R7). -/
def keyBits : Selector → Nat
  | .lnk => 6
  | .txs => 1
  | .deb => 2
  | .smp => 1
  | .unc _ => 0
  | .data24 => 24
  | .data21 => 21

/-- How many bytes hold a key. -/
def keyBytes (sel : Selector) : Nat := (keyBits sel + 7) / 8

/-- The operation a key selects in a format. -/
def decodeKey (sel : Selector) (w : Nat) : Except DecodeError Instr :=
  match sel with
  | .lnk => (lookup lnkRows (BitVec.ofNat 6 w)).elim (.error .reservedLinkState) .ok
  | .txs => (lookup txsRows (BitVec.ofNat 1 w)).elim (.error .noRow) .ok
  | .deb => (lookup debRows (BitVec.ofNat 2 w)).elim (.error .noRow) .ok
  | .smp => (lookup smpRows (BitVec.ofNat 1 w)).elim (.error .noRow) .ok
  | .unc op => .ok op.instr
  | .data24 => (lookup data24Rows (BitVec.ofNat 24 w)).elim (.error .paddingNotZero) .ok
  | .data21 => (lookup data21Rows (BitVec.ofNat 21 w)).elim (.error .noRow) .ok

/-- The number some bytes hold, the first the most significant: the byte order `B0, B1, B2` of a frame
(20_memory.md R34). -/
def ofBytes (bytes : List Byte) : Nat := bytes.foldl (fun n b => n * 256 + b.toNat) 0

/-- The `n` bytes that hold a number, the most significant first (20_memory.md R34). -/
def toBytes : Nat → Nat → List Byte
  | 0, _ => []
  | n + 1, w => BitVec.ofNat 8 (w / 256 ^ n) :: toBytes n w

/-- The operation that bytes are in a format, or why they are none. -/
def decode (sel : Selector) (bytes : List Byte) : Except DecodeError Instr :=
  if bytes.length ≠ keyBytes sel then .error .wrongLength
  else if 2 ^ keyBits sel ≤ ofBytes bytes then .error .bitsAboveKey
  else decodeKey sel (ofBytes bytes)

/-- The format an operation's key is in (30_encoding.md R54). -/
def selectorOf : Instr → Selector
  | .lnkIdle | .lnkArm | .lnkAbort | .lnkSupp | .lnkReady | .lnkStall _ | .lnkBit _ | .lnkLast _ => .lnk
  | .txBit | .txChk => .txs
  | .debSuppress | .debRelease | .debTouch => .deb
  | .sampleX | .sampleY => .smp
  | .pack => .unc .pack
  | .capture => .unc .capture
  | .txstep => .unc .txstep
  | .goInactive => .unc .goInactive
  | .linkStep => .unc .linkStep
  | .wait => .unc .wait
  | .powerOn => .unc .powerOn
  | .run => .unc .run
  | .rawFrame _ _ => .data24
  | .wireFrame _ _ _ => .data21

/-- The key of an operation, its unexamined bits 0 (30_encoding.md R54, R45, R48). -/
def encodeKey : Instr → Nat
  | .lnkIdle => 0b000000
  | .lnkArm => 0b001000
  | .lnkAbort => 0b010000
  | .lnkSupp => 0b011000
  | .lnkReady => 0b011010
  | .lnkStall c => 0b100000 + c.toNat * 8
  | .lnkBit c => 0b100100 + c.toNat * 8
  | .lnkLast c => 0b100101 + c.toNat * 8
  | .txBit => 0b0
  | .txChk => 0b1
  | .debSuppress => 0b00
  | .debRelease => 0b01
  | .debTouch => 0b10
  | .sampleX => 0b0
  | .sampleY => 0b1
  | .pack | .capture | .txstep | .goInactive | .linkStep | .wait | .powerOn | .run => 0
  | .rawFrame x y => x.toNat * 2 ^ 14 + y.toNat * 2 ^ 4
  | .wireFrame x y k => x.toNat * 2 ^ 11 + y.toNat * 2 + k.toNat

/-- The bytes of an operation in its own format. -/
def encode (i : Instr) : List Byte := toBytes (keyBytes (selectorOf i)) (encodeKey i)

/-- The selected formats whose keys take a given number of bits, exactly or in whole bytes, in the order of
spec/opcode_table.json. LNK stands before TXS, DEB and SMP, so that a whole byte is read as a dispatch word wherever
it is one; no format with a zero-width key is listed, since eight operations share it. -/
def tableSelectors : Nat → List Selector
  | 1 => [.txs, .smp]
  | 2 => [.deb]
  | 6 => [.lnk]
  | 8 => [.lnk, .txs, .deb, .smp]
  | 21 => [.data21]
  | 24 => [.data24, .data21]
  | _ => []

/-- The operation the decoder reads from a table word in one format. -/
def decodeWordAs (sel : Selector) (w : Nat) : Option Instr :=
  if 256 ^ keyBytes sel ≤ w then none
  else match decode sel (toBytes (keyBytes sel) w) with
    | .ok i => some i
    | .error _ => none

/-- The operation the decoder reads from a word of `nbits` bits, numbered as spec/opcode_table.json numbers them:
the first format of that size whose decoder accepts the word. -/
def decodeTableWord (nbits w : Nat) : Option Instr :=
  (tableSelectors nbits).findSome? (fun sel => decodeWordAs sel w)

end Sys2Proof
end

