-- ==== Sys2Proof/Machine/Fetch.lean ====
section
/-! DEFINITION. What stands in the place of instruction fetch: the dispatch word a LINK_STEP computes (30_encoding.md
R52), the arm the decoder reads from it, and the machine set up so that a given word is the one computed (log 9). -/

namespace Sys2Proof.Machine

/-- The bit `r` of the dispatch word, the value CAPTURE returns in this step; 0 where the capture never returns
(30_encoding.md R52). -/
def captureResult (s : State) : Bool := (captureThen { s with ready := false } id).ready

/-- The dispatch word of the LINK_STEP that starts in a state; a bit the step does not compute is 0 (30_encoding.md
R52, 93_implementation_defined.md U18). -/
def dispatchWord (s : State) : DispatchWord :=
  let c := pinReadClk s
  let e := edgeBit c s.lastClockLevel
  match s.linkState with
  | .inactive => dispatchBits .inactive c false false false
  | .capturing => dispatchBits .capturing c false (c && captureResult s) false
  | .transmitting => dispatchBits .transmitting c e false (e && lastBit s.txCounter)

/-- The arm a LINK_STEP performs: the operation the decoder reads from its dispatch word (43_link.md R96). -/
def fetch (s : State) : Except DecodeError Instr := decode .lnk (toBytes 1 (dispatchWord s).toNat)

/-- The bit of a dispatch word at an index. -/
def wordBit (w k : Nat) : Bool := (BitVec.ofNat 6 w).getLsbD k

/-- A state whose next LINK_STEP computes a given dispatch word, in the bits that step computes: the link state `s`, the
clock level `c`, the last level `c ^ e`, two readings that make the capture return `r`, a counter that is 20 exactly
when `t` is 1. -/
def stageWord (w : Nat) (s : State) : State :=
  let c := wordBit w 3
  match linkOfCode ((BitVec.ofNat 6 w).extractLsb' 4 2) with
  | none => s
  | some .inactive => { s with linkState := .inactive, clk := c }
  | some .capturing =>
    if c then
      if wordBit w 1 then { s with linkState := .capturing, clk := c, adcAnswers := 1 :: 0 :: s.adcAnswers }
      else { s with
        linkState := .capturing, clk := c, adcAnswers := 0 :: 0 :: s.adcAnswers, debounceFlag := false }
    else { s with linkState := .capturing, clk := c }
  | some .transmitting =>
    { s with
      linkState := .transmitting
      clk := c
      lastClockLevel := c ^^ wordBit w 2
      txCounter := if wordBit w 0 then Config.txLast else if lastBit s.txCounter then 0 else s.txCounter }

/-- A state whose next turn is the core's, which is about to perform a LINK_STEP. -/
def stageTurn (s : State) : State := { s with activity := .running, schedule := .core :: s.schedule }

end Sys2Proof.Machine
end

