-- ==== Sys2Proof/Machine/Step.lean ====
section
/-! DEFINITION. One step of the machine: one turn of one agent (20_memory.md R32), the core's turn being its next
operation in the loop of RUN (43_link.md R108). -/

namespace Sys2Proof.Machine

/-- LINK_STEP in the loop of RUN: perform the arm the dispatch word selects (43_link.md R96), then WAIT is next. -/
def linkTurn (s : State) : Host.Outcome State Fault Refusal :=
  match fetch s with
  | .error _ => .refused .reservedDispatchWord
  | .ok i =>
    match exec i s with
    | .next t => .next (endStep t)
    | .fault r => .fault r
    | .refused r => .refused r

/-- The core's turn: WAIT and LINK_STEP alternate; a stuck core does nothing (40_sampler.md R64). -/
def coreTurn (s : State) : Host.Outcome State Fault Refusal :=
  match s.activity with
  | .blocked _ => .next s
  | .lowPowerWait => exec .wait s
  | .running => linkTurn s

/-- One turn: of the agent the schedule names, of the core where it names none (log 8). POR abandons what the core is
doing and performs POWER_ON (70_reset_and_hazards.md R143). -/
def step (s : State) : Host.Outcome State Fault Refusal :=
  match s.schedule with
  | [] => coreTurn s
  | .core :: rest => coreTurn { s with schedule := rest }
  | .clk level :: rest => .next (clkTurn level { s with schedule := rest })
  | .wake :: rest => .next (wakeTurn { s with schedule := rest })
  | .por emitted :: rest => exec .powerOn (abandon emitted { s with schedule := rest })

/-- The state whose very next step computes a given dispatch word and performs its arm (log 9). Only words of the size
of a dispatch word are read so: no other key selects what a step of the machine performs. -/
def State.withFetchWord (s : State) (nbits w : Nat) : State :=
  if nbits = 6 ∨ nbits = 8 then stageTurn (stageWord w s) else s

end Sys2Proof.Machine
end

