-- ==== Sys2Proof/Safety.lean ====
section
/-! DEFINITION. The terms claims are made in: the invariants of 10_state.md R28, the abort causes of 60_exceptions.md
R121, event lists, and stimulus scripts (30_encoding.md R58). -/

namespace Sys2Proof.Safety

open Sys2Proof.Machine

/-- The labels of the protocol error conditions (60_exceptions.md R121); the hardware records none of them. -/
inductive AbortCause where
  | hostAbort
  | clockStall
  | spuriousWake
  deriving DecidableEq, Repr

/-- The numbers of the labels (60_exceptions.md R121). -/
def AbortCause.code : AbortCause → Nat
  | .hostAbort => 1
  | .clockStall => 2
  | .spuriousWake => 3

/-- The cause an arm stands for (60_exceptions.md R121). A spurious wake has no arm of its own: the core cannot tell
that it happened (R124). -/
def abortCause : Instr → Option AbortCause
  | .lnkAbort => some .hostAbort
  | .lnkStall _ => some .clockStall
  | _ => none

/-- The five events of one SAMPLE operation (40_sampler.md R61, R62). -/
def sampleEvents (a : Axis) (v : Reading) (level : Bool) : List Event :=
  [.panelDrive a, .dataFloat, .adcConvert a v, .panelIdle, .dataDrive level]

/-- Bits as DATA_DRIVE events. -/
def drives (bits : List Bool) : List Event := bits.map Event.dataDrive

/-- The frame the most recent capture packed. -/
def lastFrame (s : State) : Frame := pack s.sampleX s.sampleY

/-- The payload bits already transmitted, `TxCounter` of them (10_state.md R28 item 5). -/
def sentBits (s : State) : List Bool := (payloadBits (lastFrame s)).take s.txCounter.val

/-- The invariants of 10_state.md R28 as one predicate of a state; item 1 is the type of TxCounter. The part of item 4 that
begins "once any capture has run" is about a run and not about one state: the obligation PaddingStaysZeroOnceCaptured
states it, and item 7 is RawFrameUnobservedOutsideTransmitting. -/
structure Inv (s : State) : Prop where
  /-- Item 2: outside `Transmitting` the counter, the checksum, the last clock level and the data level are 0. -/
  quiet : s.linkState ≠ .transmitting →
    s.txCounter = 0 ∧ s.checksum = false ∧ s.lastClockLevel = false ∧ s.dataLevel = false
  /-- Items 3 and 6: outside a sample the pins are at rest and `DebounceFlag` tells whether the most recent capture
  packed a non-zero frame. -/
  atRest : (∀ a, s.activity ≠ .blocked a) →
    s.dataDir = .out ∧ s.panelCfg = .idle ∧ s.adcEnabled = false ∧ s.debounceFlag = nonZero (lastFrame s)
  /-- Inside a sample that never ends (40_sampler.md R64) the link is capturing and the pins are the sample's. -/
  stuck : ∀ a, s.activity = .blocked a →
    s.linkState = .capturing ∧ s.dataDir = .float ∧ s.panelCfg = PanelCfg.driving a ∧ s.adcEnabled = true
  /-- Items 4, 5 and 8: in `Transmitting` the most recent capture was reported, RawFrame holds its unsent bits
  left-aligned, the checksum is the XOR of those sent, and the clock level alternates from 1. -/
  frame : s.linkState = .transmitting →
    s.ready = true ∧ s.rawFrame = lastFrame s <<< s.txCounter.val ∧ s.checksum = parity (sentBits s) ∧
      s.lastClockLevel = (s.txCounter.val % 2 == 0)
  /-- In `Transmitting` the last events are the ready level and then the bits sent (30_encoding.md R48), and the data
  line shows the last of them. -/
  wire : s.linkState = .transmitting →
    (∃ before, s.trace = before ++ .dataDrive true :: drives (sentBits s)) ∧
      s.dataLevel = (sentBits s).getLastD true

/-- Clock changes, each taken by one LINK_STEP: the first to the given level. -/
def edgeTurns : Nat → Bool → List Turn
  | 0, _ => []
  | n + 1, level => .clk level :: .core :: .core :: edgeTurns n (!level)

/-- The script `W1; W1 adc(x, y)` and twenty-one edges from `W0` on (95_test_vectors.md P1): the turns of a complete
exchange. -/
def exchangeTurns : List Turn :=
  [.clk true, .core, .core, .wake, .core, .core] ++ edgeTurns 21 false

/-- Changes of the clock line that no LINK_STEP reads between. -/
def toggles : Nat → Bool → List Turn
  | 0, _ => []
  | n + 1, level => .clk (!level) :: toggles n (!level)

/-- An operation performed a number of times. -/
def repeatOp (i : Instr) : Nat → State → Host.Outcome State Fault Refusal
  | 0, s => .next s
  | n + 1, s =>
    match exec i s with
    | .next t => repeatOp i n t
    | .fault r => .fault r
    | .refused r => .refused r

/-- The results `r` of captures of given readings, one after the other (41_capture.md R78). -/
def captureResults : List (Reading × Reading) → State → List Bool
  | [], _ => []
  | (x, y) :: more, s =>
    match exec .capture { s with adcAnswers := [x, y] } with
    | .next t => t.ready :: captureResults more t
    | _ => []

end Sys2Proof.Safety
end

