-- ==== Sys2Proof/WellFormed.lean ====
section
/-! DEFINITION. Which terms of `Instr` are well formed: every operand width is in the types, so the one condition
left is the definition of the last wire bit (30_encoding.md R48). -/

namespace Sys2Proof

/-- The exclusive-or of the bits of a reading, bit by bit. -/
def readingParity (v : Reading) : Bool :=
  (List.range 10).foldl (fun p k => p ^^ v.getLsbD k) false

/-- An operation is well formed unless it is a wire frame whose last bit is not the XOR of the twenty before it
(`w21 = w1 ^ ... ^ w20`, 30_encoding.md R48). -/
def WellFormed : Instr → Bool
  | .wireFrame x y k => k == (readingParity x ^^ readingParity y)
  | _ => true

end Sys2Proof
end

