-- ==== Sys2Proof/Certificates/Slice0/Obligations.lean ====
section
/-! DEFINITION. The statements for the provers. A full record in a conclusion is the frame as well: every field it does
not name is unchanged. There is no addressable memory (20_memory.md R30), so no statement has a memory frame. The fields
`sampleX`, `sampleY`, `ready`, `final` and `draws` are the model's own (log 2, log 4); no statement rests on the value of
`draws`. -/

open Sys2Proof Sys2Proof.Machine Sys2Proof.Safety

/-! ## Formats -/

/-- 30_encoding.md R45 and R46: where every bit of the two readings stands in the frame. -/
def Obligations.PackLaysOutTheFrame : Prop :=
  ∀ x y : Reading,
    pack x y = (x.setWidth 24 <<< 14) ||| (y.setWidth 24 <<< 4) ∧
    (pack x y).extractLsb' 16 8 = x.extractLsb' 2 8 ∧
    (pack x y).extractLsb' 14 2 = x.extractLsb' 0 2 ∧
    (pack x y).extractLsb' 8 6 = y.extractLsb' 4 6 ∧
    (pack x y).extractLsb' 6 2 = y.extractLsb' 2 2 ∧
    (pack x y).extractLsb' 4 2 = y.extractLsb' 0 2 ∧
    (pack x y).extractLsb' 0 4 = 0#4

/-- 41_capture.md R77: packing then unpacking gives the readings back, the padding is zero, and pack is injective. -/
def Obligations.UnpackInvertsPack : Prop :=
  (∀ x y : Reading, unpackX (pack x y) = x ∧ unpackY (pack x y) = y ∧ pad (pack x y) = 0#4) ∧
  ∀ x y x' y' : Reading, pack x y = pack x' y' → x = x' ∧ y = y'

/-- 30_encoding.md R48: the twenty-one wire bits of a packed frame, `w(k+1)` at index `k`: X from bit 9 down, Y from bit
9 down, then the exclusive-or; all twenty-one together have even parity. -/
def Obligations.WireBitsAreReadingsThenParity : Prop :=
  ∀ x y : Reading,
    (wireBits (pack x y)).length = 21 ∧
    (∀ k < 10, (wireBits (pack x y))[k]? = some (x.getLsbD (9 - k))) ∧
    (∀ k < 10, (wireBits (pack x y))[10 + k]? = some (y.getLsbD (9 - k))) ∧
    (∀ k < 20, (wireBits (pack x y))[k]? = some ((pack x y).getLsbD (23 - k))) ∧
    (wireBits (pack x y))[20]? = some (readingParity x ^^ readingParity y) ∧
    parity (wireBits (pack x y)) = false

/-- 42_transmit.md R89, the receiver's side: an undamaged wire frame has parity 0, and parity 1 when exactly one of its
bits is flipped. -/
def Obligations.ParityDetectsASingleFlip : Prop :=
  ∀ f : Frame, parity (wireBits f) = false ∧ ∀ k < 21, parity ((wireBits f).modify k not) = true

/-- 10_state.md R20: the fields of the notation LINKREG. -/
def Obligations.LinkregFields : Prop :=
  ∀ s : State,
    (linkreg s).extractLsb' 0 2 = linkCode s.linkState ∧
    (linkreg s).getLsbD 2 = s.lastClockLevel ∧
    (linkreg s).getLsbD 3 = s.debounceFlag ∧
    (linkreg s).getLsbD 4 = s.checksum ∧
    ((linkreg s).extractLsb' 5 5).toNat = s.txCounter.val

/-- 20_memory.md R44: the host sees `Z` exactly while the data line floats, and else the level driven. -/
def Obligations.HostViewOfData : Prop :=
  ∀ s : State,
    (s.dataDir = .float → hostView s = none) ∧ (s.dataDir = .out → hostView s = some s.dataLevel)

/-- 10_state.md R18 and 40_sampler.md R61, R62: which panel edges each configuration drives. -/
def Obligations.PanelEdgesDriven : Prop :=
  ∀ s : State,
    (s.panelCfg = .idle → ∀ p ∈ [Config.Port.xp, .xn, .yp, .yn], pinDrive s p = .released) ∧
    (s.panelCfg = .driveX → pinDrive s .xp = .driven true ∧ pinDrive s .xn = .driven false ∧
      pinDrive s .yp = .released ∧ pinDrive s .yn = .released) ∧
    (s.panelCfg = .driveY → pinDrive s .yp = .driven true ∧ pinDrive s .yn = .driven false ∧
      pinDrive s .xp = .released ∧ pinDrive s .xn = .released)

/-! ## Dispatch keys -/

/-- 30_encoding.md R54: the eight LNK patterns are disjoint and cover every word but those of the reserved code, which
select nothing; the TXS, DEB and SMP patterns each select exactly one operation for every key. -/
def Obligations.PatternsSelectExactlyOneArm : Prop :=
  (∀ k : DispatchWord,
    (lnkRows.filter (fun r => r.selects k)).length = if k.extractLsb' 4 2 = 0b11#2 then 0 else 1) ∧
  (∀ k : BitVec 1, (txsRows.filter (fun r => r.selects k)).length = 1) ∧
  (∀ k : BitVec 2, (debRows.filter (fun r => r.selects k)).length = 1) ∧
  (∀ k : BitVec 1, (smpRows.filter (fun r => r.selects k)).length = 1)

/-- Words written out from the patterns of 30_encoding.md R54 and the layouts of R45 and R48: thirteen decode, and a
reserved word of R55 a is refused. That a frame of 21 bits stands right-aligned in three bytes is the model's choice (log
10). -/
def Obligations.DispatchWordsDecode : Prop :=
  decode .lnk [0b000000#8] = .ok .lnkIdle ∧
  decode .lnk [0b001000#8] = .ok .lnkArm ∧
  decode .lnk [0b010000#8] = .ok .lnkAbort ∧
  decode .lnk [0b011000#8] = .ok .lnkSupp ∧
  decode .lnk [0b011010#8] = .ok .lnkReady ∧
  decode .lnk [0b100000#8] = .ok (.lnkStall false) ∧
  decode .lnk [0b101100#8] = .ok (.lnkBit true) ∧
  decode .lnk [0b100101#8] = .ok (.lnkLast false) ∧
  decode .lnk [0b110000#8] = .error .reservedLinkState ∧
  decode .txs [0b1#8] = .ok .txChk ∧
  decode .deb [0b01#8] = .ok .debRelease ∧
  decode .smp [0b1#8] = .ok .sampleY ∧
  decode .data24 [0xA9#8, 0x53#8, 0xC0#8] = .ok (.rawFrame 677#10 316#10) ∧
  decode .data21 [0x15#8, 0x2A#8, 0x78#8] = .ok (.wireFrame 677#10 316#10 false)

/-- Decode and encode agree: the decoder gives back every well-formed operation from the bytes of its own format, every
operand at every value. -/
def Obligations.DecodeOfEncode : Prop :=
  ∀ i : Instr, WellFormed i = true → decode (selectorOf i) (encode i) = .ok i

/-- In the two data formats, where every bit is used, the bytes are the encoding of what they decode to. -/
def Obligations.EncodeOfDecodedData : Prop :=
  ∀ (bytes : List Byte) (i : Instr),
    (decode .data24 bytes = .ok i → encode i = bytes) ∧ (decode .data21 bytes = .ok i → encode i = bytes)

/-- 30_encoding.md R52: the bits of the dispatch word a LINK_STEP computes, each in the states that consult it. -/
def Obligations.DispatchWordBits : Prop :=
  ∀ s : State,
    (dispatchWord s).extractLsb' 4 2 = linkCode s.linkState ∧
    (dispatchWord s).getLsbD 3 = s.clk ∧
    (s.linkState = .transmitting → (dispatchWord s).getLsbD 2 = (s.clk ^^ s.lastClockLevel)) ∧
    (∀ t, s.linkState = .capturing → s.clk = true → 2 ≤ s.adcAnswers.length → exec .capture s = .next t →
      (dispatchWord s).getLsbD 1 = t.ready) ∧
    (s.linkState = .transmitting → s.clk ≠ s.lastClockLevel →
      (dispatchWord s).getLsbD 0 = decide (s.txCounter = 20))

/-! ## Sampler -/

/-- 40_sampler.md R61: a SAMPLE.X whose conversion is answered. -/
def Obligations.SampleXReadsAxisX : Prop :=
  ∀ (s : State) (v : Reading) (rest : List Reading), s.adcAnswers = v :: rest →
    exec .sampleX s = .next { s with
      dataDir := .out, panelCfg := .idle, adcEnabled := false, adcAnswers := rest, sampleX := v,
      trace := s.trace ++ [.panelDrive .x, .dataFloat, .adcConvert .x v, .panelIdle, .dataDrive s.dataLevel] }

/-- 40_sampler.md R62: a SAMPLE.Y whose conversion is answered. -/
def Obligations.SampleYReadsAxisY : Prop :=
  ∀ (s : State) (v : Reading) (rest : List Reading), s.adcAnswers = v :: rest →
    exec .sampleY s = .next { s with
      dataDir := .out, panelCfg := .idle, adcEnabled := false, adcAnswers := rest, sampleY := v,
      trace := s.trace ++ [.panelDrive .y, .dataFloat, .adcConvert .y v, .panelIdle, .dataDrive s.dataLevel] }

/-- 40_sampler.md R64: a conversion that never completes leaves the core inside the sample, nothing after it is
performed, be the sample alone or the first or the second of a capture, whoever called that, and no turn of the core
changes anything any more. That a queue of answers that has run out is such a conversion is the model's choice (log 5). -/
def Obligations.UnansweredSampleIsStuck : Prop :=
  (∀ s : State, s.adcAnswers = [] →
    exec .sampleX s = .next { s with
      dataDir := .float, panelCfg := .driveX, adcEnabled := true, activity := .blocked .x,
      trace := s.trace ++ [.panelDrive .x, .dataFloat] } ∧
    exec .sampleY s = .next { s with
      dataDir := .float, panelCfg := .driveY, adcEnabled := true, activity := .blocked .y,
      trace := s.trace ++ [.panelDrive .y, .dataFloat] }) ∧
  (∀ (s : State) (i : Instr), s.adcAnswers = [] →
    i ∈ [.capture, .lnkSupp, .lnkReady] ∨ i = .linkStep ∧ s.linkState = .capturing ∧ s.clk = true →
    exec i s = .next { s with
      checksum := false, dataDir := .float, panelCfg := .driveX, adcEnabled := true, activity := .blocked .x,
      trace := s.trace ++ [.panelDrive .x, .dataFloat] }) ∧
  (∀ (s : State) (i : Instr) (x : Reading), s.adcAnswers = [x] →
    i ∈ [.capture, .lnkSupp, .lnkReady] ∨ i = .linkStep ∧ s.linkState = .capturing ∧ s.clk = true →
    exec i s = .next { s with
      checksum := false, sampleX := x, adcAnswers := [],
      dataDir := .float, panelCfg := .driveY, adcEnabled := true, activity := .blocked .y,
      trace := s.trace ++ (sampleEvents .x x s.dataLevel ++ [.panelDrive .y, .dataFloat]) }) ∧
  (∀ (s : State) (a : Axis), s.activity = .blocked a → s.schedule = [] → step s = .next s) ∧
  ∀ (s : State) (a : Axis) (rest : List Turn), s.activity = .blocked a → s.schedule = .core :: rest →
    step s = .next { s with schedule := rest }

/-! ## Capture -/

/-- 41_capture.md R71: PACK writes RawFrame and nothing else. -/
def Obligations.PackWritesRawFrame : Prop :=
  ∀ s : State, exec .pack s = .next { s with
    rawFrame := (s.sampleX.setWidth 24 <<< 14) ||| (s.sampleY.setWidth 24 <<< 4) }

/-- 41_capture.md R73: DEB.SUPPRESS returns 0 and writes nothing. -/
def Obligations.DebSuppressReturnsZero : Prop :=
  ∀ s : State, exec .debSuppress s = .next { s with ready := false }

/-- 41_capture.md R74: DEB.TOUCH sets the flag, clears the counter and returns 1. -/
def Obligations.DebTouchSetsTheFlag : Prop :=
  ∀ s : State, exec .debTouch s = .next { s with debounceFlag := true, txCounter := 0, ready := true }

/-- 41_capture.md R75: DEB.RELEASE clears the flag and the counter and returns 1. -/
def Obligations.DebReleaseClearsTheFlag : Prop :=
  ∀ s : State, exec .debRelease s = .next { s with debounceFlag := false, txCounter := 0, ready := true }

/-- 41_capture.md R76 with the truth table R80: a completed CAPTURE, for every pair of readings and either flag. -/
def Obligations.CaptureClosedForm : Prop :=
  ∀ (s : State) (x y : Reading) (rest : List Reading), s.adcAnswers = x :: y :: rest →
    exec .capture s = .next { s with
      checksum := false
      rawFrame := pack x y
      ready := decide (pack x y ≠ 0) || s.debounceFlag
      debounceFlag := decide (pack x y ≠ 0)
      txCounter := if pack x y = 0 ∧ s.debounceFlag = false then s.txCounter else 0
      sampleX := x, sampleY := y, adcAnswers := rest
      dataDir := .out, panelCfg := .idle, adcEnabled := false
      trace := s.trace ++
        [.panelDrive .x, .dataFloat, .adcConvert .x x, .panelIdle, .dataDrive s.dataLevel,
          .panelDrive .y, .dataFloat, .adcConvert .y y, .panelIdle, .dataDrive s.dataLevel] }

/-- 41_capture.md R78: the debounce law in terms of `r`, over any sequence of captures from any state. Every non-zero
capture returns 1; an all-zero capture returns 1 exactly when the capture before it packed a non-zero frame; in a run of
all-zero captures after a non-zero one the first returns 1 and the others 0; in a run that starts with the flag at 0, as
at power-on, every one returns 0. -/
def Obligations.DebounceLaw : Prop :=
  (∀ (s : State) (before : List (Reading × Reading)) (x y : Reading), (x, y) ≠ (0, 0) →
    (captureResults (before ++ [(x, y)]) s).getLast? = some true) ∧
  (∀ (s : State) (before : List (Reading × Reading)) (x y : Reading),
    (captureResults (before ++ [(x, y), (0, 0)]) s).getLast? = some (decide ((x, y) ≠ (0, 0)))) ∧
  (∀ (s : State) (x y : Reading) (n : Nat), (x, y) ≠ (0, 0) →
    captureResults ((x, y) :: List.replicate (n + 1) (0, 0)) s = true :: true :: List.replicate n false) ∧
  ∀ (s : State) (n : Nat), s.debounceFlag = false →
    captureResults (List.replicate n (0, 0)) s = List.replicate n false

/-! ## Transmitter -/

/-- 42_transmit.md R86: TX.BIT, selected below 20. -/
def Obligations.TxBitShiftsOneBitOut : Prop :=
  ∀ (s : State) (h : s.txCounter.val < 20),
    exec .txBit s = .next { s with
      dataDir := .out
      dataLevel := s.rawFrame.getLsbD 23
      checksum := s.checksum ^^ s.rawFrame.getLsbD 23
      rawFrame := s.rawFrame.extractLsb' 0 23 ++ 0b0#1
      txCounter := ⟨s.txCounter.val + 1, by omega⟩
      final := false
      trace := s.trace ++ [.dataDrive (s.rawFrame.getLsbD 23)] }

/-- MODEL'S CHOICE (log 6), no rule of the spec: TX.BIT performed at 20, where it is not selected, has its other effects
and leaves some counter value. -/
def Obligations.TxBitPastTheLastBit : Prop :=
  ∀ s : State, s.txCounter = 20 → ∃ n : Count,
    exec .txBit s = .next { s with
      dataDir := .out
      dataLevel := s.rawFrame.getLsbD 23
      checksum := s.checksum ^^ s.rawFrame.getLsbD 23
      rawFrame := s.rawFrame.extractLsb' 0 23 ++ 0b0#1
      txCounter := n
      draws := s.draws + 1
      final := false
      trace := s.trace ++ [.dataDrive (s.rawFrame.getLsbD 23)] }

/-- 42_transmit.md R87: TX.CHK drives the checksum and changes neither it nor the frame nor the counter. -/
def Obligations.TxChkDrivesTheChecksum : Prop :=
  ∀ s : State, exec .txChk s = .next { s with
    dataDir := .out, dataLevel := s.checksum, final := true, trace := s.trace ++ [.dataDrive s.checksum] }

/-- 42_transmit.md R88: TXSTEP is TX.BIT below 20 and TX.CHK at 20, and completes. -/
def Obligations.TxstepDispatchesOnTheCounter : Prop :=
  ∀ s : State,
    (s.txCounter.val < 20 → ∃ t, exec .txstep s = .next t ∧ exec .txBit s = .next t ∧ t.final = false) ∧
    (s.txCounter.val = 20 → ∃ t, exec .txstep s = .next t ∧ exec .txChk s = .next t ∧ t.final = true)

/-- 42_transmit.md R90 and the example of R88: from a fresh frame, `k` TXSTEPs drive its first `k` payload bits and leave
it shifted by `k` with their exclusive-or in the checksum; the twenty-first drives that of all twenty, and only it
returns 1. -/
def Obligations.TxstepsDriveTheWireFrame : Prop :=
  ∀ s : State, s.checksum = false → s.txCounter = 0 →
    (∀ k, 1 ≤ k → k ≤ 20 → ∃ t, repeatOp .txstep k s = .next t ∧
      t.txCounter.val = k ∧ t.rawFrame = s.rawFrame <<< k ∧
      t.checksum = parity ((payloadBits s.rawFrame).take k) ∧
      t.trace = s.trace ++ drives ((payloadBits s.rawFrame).take k) ∧ t.final = false) ∧
    ∃ t, repeatOp .txstep 21 s = .next t ∧
      t.trace = s.trace ++ drives (wireBits s.rawFrame) ∧ t.final = true ∧ t.txCounter.val = 20

/-! ## Link -/

/-- 43_link.md R97: LNK.IDLE writes no state and emits no event. -/
def Obligations.IdleChangesNothing : Prop := ∀ s : State, exec .lnkIdle s = .next s

/-- 43_link.md R98: LNK.ARM writes LinkState only. -/
def Obligations.ArmWritesLinkStateOnly : Prop :=
  ∀ s : State, exec .lnkArm s = .next { s with linkState := .capturing }

/-- 43_link.md R106: GO_INACTIVE, and performed twice it gives the same state but for the second event. -/
def Obligations.GoInactiveResetsTheLink : Prop :=
  ∀ s : State,
    exec .goInactive s = .next { s with
      dataDir := .out, dataLevel := false, txCounter := 0, checksum := false, lastClockLevel := false,
      linkState := .inactive, trace := s.trace ++ [.dataDrive false] } ∧
    ∀ t, exec .goInactive s = .next t →
      exec .goInactive t = .next { t with trace := t.trace ++ [.dataDrive false] }

/-- 43_link.md R99 and R102: LNK.ABORT and LNK.STALL perform GO_INACTIVE and nothing else: DebounceFlag and RawFrame are
kept, no capture runs, no bit is sent. -/
def Obligations.AbortArmsPerformGoInactive : Prop :=
  ∀ (s : State) (c : Bool),
    exec .lnkAbort s = .next { s with
      dataDir := .out, dataLevel := false, txCounter := 0, checksum := false, lastClockLevel := false,
      linkState := .inactive, trace := s.trace ++ [.dataDrive false] } ∧
    exec (.lnkStall c) s = .next { s with
      dataDir := .out, dataLevel := false, txCounter := 0, checksum := false, lastClockLevel := false,
      linkState := .inactive, trace := s.trace ++ [.dataDrive false] }

/-- 43_link.md R100: LNK.SUPP, the capture returning 0. -/
def Obligations.SuppressedCaptureStaysCapturing : Prop :=
  ∀ (s : State) (rest : List Reading), s.debounceFlag = false → s.adcAnswers = 0 :: 0 :: rest →
    exec .lnkSupp s = .next { s with
      checksum := false, rawFrame := 0, ready := false, sampleX := 0, sampleY := 0, adcAnswers := rest,
      dataDir := .out, panelCfg := .idle, adcEnabled := false,
      trace := s.trace ++ (sampleEvents .x 0 s.dataLevel ++ sampleEvents .y 0 s.dataLevel) }

/-- 43_link.md R101: LNK.READY, the capture returning 1, a touch or a release. -/
def Obligations.ReadyEntersTransmitting : Prop :=
  ∀ (s : State) (x y : Reading) (rest : List Reading), s.adcAnswers = x :: y :: rest →
    (pack x y ≠ 0 ∨ s.debounceFlag = true) →
    exec .lnkReady s = .next { s with
      linkState := .transmitting, lastClockLevel := true, dataDir := .out, dataLevel := true,
      rawFrame := pack x y, checksum := false, txCounter := 0, debounceFlag := decide (pack x y ≠ 0), ready := true,
      sampleX := x, sampleY := y, adcAnswers := rest, panelCfg := .idle, adcEnabled := false,
      trace := s.trace ++ (sampleEvents .x x s.dataLevel ++ sampleEvents .y y s.dataLevel) ++ [.dataDrive true] }

/-- 43_link.md R103: LNK.BIT, selected below 20. -/
def Obligations.BitArmSendsOnePayloadBit : Prop :=
  ∀ (s : State) (c : Bool) (h : s.txCounter.val < 20),
    exec (.lnkBit c) s = .next { s with
      lastClockLevel := c
      dataDir := .out
      dataLevel := s.rawFrame.getLsbD 23
      checksum := s.checksum ^^ s.rawFrame.getLsbD 23
      rawFrame := s.rawFrame <<< 1
      txCounter := ⟨s.txCounter.val + 1, by omega⟩
      final := false
      trace := s.trace ++ [.dataDrive (s.rawFrame.getLsbD 23)] }

/-- 43_link.md R105: LNK.LAST, selected at 20: the checksum, then the idle level, and the link is inactive. -/
def Obligations.LastArmSendsTheChecksum : Prop :=
  ∀ (s : State) (c : Bool), s.txCounter = 20 →
    exec (.lnkLast c) s = .next { s with
      lastClockLevel := false, dataDir := .out, dataLevel := false, checksum := false, txCounter := 0,
      linkState := .inactive, final := true,
      trace := s.trace ++ [.dataDrive s.checksum, .dataDrive false] }

/-- 60_exceptions.md R130: GO_INACTIVE from any state, and twice. -/
def Obligations.AbortIdempotence : Prop :=
  ∀ s : State, ∃ t, exec .goInactive s = .next t ∧
    t.txCounter = 0 ∧ t.checksum = false ∧ t.lastClockLevel = false ∧ t.dataLevel = false ∧ t.dataDir = .out ∧
    t.linkState = .inactive ∧ t.debounceFlag = s.debounceFlag ∧ t.rawFrame = s.rawFrame ∧
    ∃ u, exec .goInactive t = .next u ∧ { u with trace := t.trace } = t

/-- 43_link.md R96: "the two are the same function": the arm the dispatch word selects does what the text of LINK_STEP
does, in every state; some arm is always selected. -/
def Obligations.LinkStepIsItsSelectedArm : Prop :=
  ∀ s : State, ∃ i, fetch s = .ok i ∧ selectorOf i = .lnk ∧ exec i s = exec .linkStep s

/-- 43_link.md R109: the eight rows of the transition table, in states whose data line is low outside `Transmitting`
(10_state.md R28 item 2). -/
def Obligations.TransitionTable : Prop :=
  ∀ s : State, (s.linkState ≠ .transmitting → s.dataLevel = false) →
    (s.linkState = .inactive → s.clk = false → exec .linkStep s = .next s) ∧
    (s.linkState = .inactive → s.clk = true → exec .linkStep s = .next { s with linkState := .capturing }) ∧
    (s.linkState = .capturing → s.clk = false → ∃ t, exec .linkStep s = .next t ∧ exec .goInactive s = .next t ∧
      t.linkState = .inactive ∧ t.dataLevel = false) ∧
    (∀ x y rest, s.linkState = .capturing → s.clk = true → s.adcAnswers = x :: y :: rest →
      pack x y = 0 ∧ s.debounceFlag = false →
      ∃ t, exec .linkStep s = .next t ∧ exec .capture s = .next t ∧ t.linkState = .capturing ∧
        t.dataLevel = false) ∧
    (∀ x y rest, s.linkState = .capturing → s.clk = true → s.adcAnswers = x :: y :: rest →
      ¬(pack x y = 0 ∧ s.debounceFlag = false) →
      ∃ t u, exec .linkStep s = .next t ∧ exec .capture s = .next u ∧
        t = { u with
          linkState := .transmitting, lastClockLevel := true, dataDir := .out, dataLevel := true,
          trace := u.trace ++ [.dataDrive true] }) ∧
    (s.linkState = .transmitting → s.clk = s.lastClockLevel →
      ∃ t, exec .linkStep s = .next t ∧ exec .goInactive s = .next t ∧ t.linkState = .inactive ∧
        t.dataLevel = false) ∧
    (s.linkState = .transmitting → s.clk ≠ s.lastClockLevel → s.txCounter.val < 20 →
      ∃ t, exec .linkStep s = .next t ∧ exec .txBit { s with lastClockLevel := s.clk } = .next t ∧
        t.linkState = .transmitting ∧ t.dataLevel = s.rawFrame.getLsbD 23) ∧
    (s.linkState = .transmitting → s.clk ≠ s.lastClockLevel → s.txCounter.val = 20 →
      ∃ t, exec .linkStep s = .next t ∧ t.linkState = .inactive ∧ t.dataLevel = false ∧
        t.trace = s.trace ++ [.dataDrive s.checksum, .dataDrive false] ∧ t.txCounter = 0 ∧ t.checksum = false ∧
        t.lastClockLevel = false ∧ t.rawFrame = s.rawFrame ∧ t.debounceFlag = s.debounceFlag)

/-! ## The run loop, power-on and the other agents -/

/-- 43_link.md R107: WAIT returns when a wake is pending, and clears it; else the core stays in the wait. -/
def Obligations.WaitReturnsOnAWake : Prop :=
  ∀ s : State,
    (s.wakePending = true → exec .wait s = .next { s with wakePending := false, activity := .running }) ∧
    (s.wakePending = false → exec .wait s = .next { s with activity := .lowPowerWait })

/-- 70_reset_and_hazards.md R140: POWER_ON, RawFrame any value. The five model's own fields may take any value. -/
def Obligations.PowerOnState : Prop :=
  ∀ s : State, ∃ (f : Frame) (x y : Reading) (r final : Bool) (n : Nat),
    exec .powerOn s = .next { s with
      rawFrame := f, debounceFlag := false, linkState := .inactive, txCounter := 0, checksum := false,
      lastClockLevel := false, wakePending := false, panelCfg := .idle, adcEnabled := false, dataDir := .out,
      dataLevel := false, activity := .lowPowerWait, trace := s.trace ++ [.panelIdle, .dataDrive false],
      sampleX := x, sampleY := y, ready := r, final := final, draws := n }

/-- 10_state.md R27: the fields after reset, RawFrame apart (unspecified there; its value is log 1's). -/
def Obligations.ResetValues : Prop :=
  State.reset.debounceFlag = false ∧ State.reset.linkState = .inactive ∧ State.reset.txCounter = 0 ∧
  State.reset.checksum = false ∧ State.reset.lastClockLevel = false ∧ State.reset.dataDir = .out ∧
  State.reset.dataLevel = false ∧ State.reset.panelCfg = .idle ∧ State.reset.adcEnabled = false ∧
  State.reset.wakePending = false ∧ linkreg State.reset = 0x000#10

/-- 43_link.md R108: RUN is POWER_ON and then the steps of the machine, one for each turn the environment schedules and
at most three more; it ends where no step changes anything, in WAIT with no wake pending or stuck in a sample. That it
ends there is the model's reading of "the end of a run" (log 9). -/
def Obligations.RunIsPowerOnThenSteps : Prop :=
  ∀ s : State, ∃ p u, exec .powerOn s = .next p ∧ exec .run s = .next u ∧
    Sys2Proof.core.run (s.schedule.length + 3) p = .next u ∧ u.schedule = [] ∧
    (u.activity = .lowPowerWait ∧ u.wakePending = false ∨ ∃ a, u.activity = .blocked a) ∧ step u = .next u

/-- A step runs the operation its dispatch word decodes to: at a core whose WAIT has returned, on the core's turn, the
step is `exec` of that operation, and then WAIT is next unless the operation never returned. -/
def Obligations.StepRunsTheFetchedArm : Prop :=
  ∀ (s : State) (i : Instr) (t : State), s.activity = .running → fetch s = .ok i → exec i s = .next t →
    step { s with schedule := .core :: s.schedule } = .next (endStep t) ∧
    (s.schedule = [] → step s = .next (endStep t)) ∧
    ((∀ a, t.activity ≠ .blocked a) → endStep t = { t with activity := .lowPowerWait }) ∧
    ∀ a, t.activity = .blocked a → endStep t = t

/-- 43_link.md R107, 60_exceptions.md R136: on the core's turn inside the wait, the step is `exec` of WAIT; with no wake
pending nothing changes. -/
def Obligations.StepInTheWait : Prop :=
  ∀ s : State, s.activity = .lowPowerWait →
    (s.wakePending = true → step { s with schedule := .core :: s.schedule } =
      .next { s with wakePending := false, activity := .running }) ∧
    (s.wakePending = false → step { s with schedule := .core :: s.schedule } = .next s) ∧
    (s.wakePending = false → s.schedule = [] → step s = .next s)

/-- 10_state.md R19, 20_memory.md R40, 60_exceptions.md R126: a turn of the host sets the clock line and a change of
either polarity is a wake condition; another wake source sets the latch; conditions coalesce; no field of the core but
the latch changes. -/
def Obligations.OutsideTurnsSetTheWakeLatch : Prop :=
  ∀ (s : State) (level : Bool) (rest : List Turn),
    (s.schedule = .clk level :: rest → step s = .next { s with
      schedule := rest, clk := level, wakePending := s.wakePending || decide (level ≠ s.clk) }) ∧
    (s.schedule = .wake :: rest → step s = .next { s with schedule := rest, wakePending := true })

/-- 70_reset_and_hazards.md R143: POR at any time, in whatever state, in the middle of an operation or of a conversion,
performs POWER_ON. Of the operation it abandons, the first `k` events the core's own turn would have emitted stand in the
trace, and the answers given to the conversions among them are used up; that POR lands after so many events is the model's
form of "at any time" (log 8). The model's own fields may take any value. -/
def Obligations.PorAbandonsEverything : Prop :=
  ∀ (s : State) (k : Nat) (rest : List Turn), s.schedule = .por k :: rest →
    ∃ (u : State) (out : List Event) (f : Frame) (x y : Reading) (r final : Bool) (n : Nat),
      step { s with schedule := .core :: rest } = .next u ∧
      out = (u.trace.drop s.trace.length).take k ∧
      step s = .next { s with
        schedule := rest, trace := s.trace ++ out ++ [.panelIdle, .dataDrive false],
        adcAnswers := s.adcAnswers.drop (out.countP isConversion),
        rawFrame := f, debounceFlag := false, linkState := .inactive, txCounter := 0, checksum := false,
        lastClockLevel := false, dataDir := .out, dataLevel := false, panelCfg := .idle, adcEnabled := false,
        wakePending := false, activity := .lowPowerWait,
        sampleX := x, sampleY := y, ready := r, final := final, draws := n }

/-- The host's question about `withFetchWord`: after it the very next step runs the operation the decoder reads from the
dispatch word. -/
def Obligations.FetchWordRunsNext : Prop :=
  ∀ (s : State) (w : Nat) (i : Instr), decodeTableWord 8 w = some i →
    ∃ t, exec i { s.withFetchWord 8 w with schedule := s.schedule } = .next t ∧
      step (s.withFetchWord 8 w) = .next (endStep t)

/-- MODEL'S CHOICE (log 7), no rule of the spec: the data formats performed as operations. RAWFRAME leaves what PACK
leaves for its readings; a well-formed WIREFRAME drives the wire bits of its readings. -/
def Obligations.DataFormatsPerformed : Prop :=
  ∀ (s : State) (x y : Reading) (k : Bool),
    exec (.rawFrame x y) s = .next { s with rawFrame := pack x y } ∧
    (WellFormed (.wireFrame x y k) = true →
      exec (.wireFrame x y k) s = .next { s with
        dataDir := .out, dataLevel := k, trace := s.trace ++ drives (wireBits (pack x y)) })

/-! ## Whole-machine rules -/

/-- 60_exceptions.md R120, 70_reset_and_hazards.md R155: no operation and no step stops with a fault or a refusal. -/
def Obligations.NothingEverStops : Prop :=
  (∀ (i : Instr) (s : State), ∃ t, exec i s = .next t) ∧ ∀ s : State, ∃ t, step s = .next t

/-- 10_state.md R28 as an invariant: the state after reset has it. Its clause on DebounceFlag reads the model's own
`sampleX` and `sampleY`, which the model resets to 0 (log 4). -/
def Obligations.ResetHasInv : Prop := Inv State.reset

/-- 10_state.md R28 as an invariant: every step of the machine keeps it, from every state that has it. -/
def Obligations.StepKeepsInv : Prop := ∀ s t : State, Inv s → step s = .next t → Inv t

/-- 10_state.md R28 item 4. Every completed capture, and every LINK_STEP that performs one, leaves the padding of RawFrame
zero, in whatever state it starts; from then on every turn but POR keeps it zero, in every link state, and so does every
operation but POWER_ON and RUN; in `Transmitting` the low `4 + TxCounter` bits are zero. -/
def Obligations.PaddingStaysZeroOnceCaptured : Prop :=
  (∀ (s : State) (x y : Reading) (rest : List Reading), s.adcAnswers = x :: y :: rest →
    (∃ t, exec .capture s = .next t ∧ pad t.rawFrame = 0) ∧
    (s.linkState = .capturing → s.clk = true → ∃ t, exec .linkStep s = .next t ∧ pad t.rawFrame = 0)) ∧
  (∀ s t : State, step s = .next t → (∀ k rest, s.schedule ≠ .por k :: rest) →
    pad s.rawFrame = 0 → pad t.rawFrame = 0) ∧
  (∀ (i : Instr) (s t : State), exec i s = .next t → i ≠ .powerOn → i ≠ .run →
    pad s.rawFrame = 0 → pad t.rawFrame = 0) ∧
  ∀ s : State, Inv s → s.linkState = .transmitting → ∀ k < 4 + s.txCounter.val, s.rawFrame.getLsbD k = false

/-- 43_link.md R109, last sentence: the transitions no step makes. A LINK_STEP, at a scheduled turn of the core or where
nothing is scheduled, that starts and ends in `Capturing` is LNK.SUPP. -/
def Obligations.NoForbiddenTransition : Prop :=
  ∀ s t : State, step s = .next t →
    ¬(s.linkState = .inactive ∧ t.linkState = .transmitting) ∧
    ¬(s.linkState = .transmitting ∧ t.linkState = .capturing) ∧
    (s.linkState = .capturing → t.linkState = .capturing → s.activity = .running →
      (s.schedule = [] ∨ ∃ rest, s.schedule = .core :: rest) → fetch s = .ok .lnkSupp)

/-- 10_state.md R14, R15, R11: who writes DebounceFlag, LinkState and RawFrame. An operation not named, and not the
caller of one that is, leaves the field alone; POWER_ON and RUN, which perform power-on, are apart. -/
def Obligations.FieldOwnership : Prop :=
  ∀ (i : Instr) (s t : State), exec i s = .next t → i ≠ .powerOn → i ≠ .run →
    (i ∉ [.debTouch, .debRelease, .capture, .lnkSupp, .lnkReady, .linkStep] → t.debounceFlag = s.debounceFlag) ∧
    (i ∉ [.lnkArm, .lnkAbort, .lnkReady, .goInactive, .linkStep] → (∀ c, i ≠ .lnkStall c) → (∀ c, i ≠ .lnkLast c) →
      t.linkState = s.linkState) ∧
    (i ∉ [.pack, .capture, .lnkSupp, .lnkReady, .txBit, .txstep, .linkStep] → (∀ c, i ≠ .lnkBit c) →
      (∀ c, i ≠ .lnkLast c) → (∀ x y, i ≠ .rawFrame x y) → t.rawFrame = s.rawFrame)

/-- 20_memory.md R38 c: the output trace only grows, under every operation and every step. -/
def Obligations.TraceOnlyGrows : Prop :=
  (∀ (i : Instr) (s t : State), exec i s = .next t → s.trace <+: t.trace) ∧
  ∀ s t : State, step s = .next t → s.trace <+: t.trace

/-- 10_state.md R28 item 7: outside `Transmitting` the value of RawFrame cannot be observed: whatever it is, a step does
the same to every other field, and if the step enters `Transmitting` RawFrame is the same as well. -/
def Obligations.RawFrameUnobservedOutsideTransmitting : Prop :=
  ∀ (s t : State) (f : Frame), s.linkState ≠ .transmitting → step s = .next t →
    ∃ g, step { s with rawFrame := f } = .next { t with rawFrame := g } ∧
      (t.linkState = .transmitting → g = t.rawFrame)

/-- 10_state.md R16: outside `Transmitting` the value of LastClockLevel cannot be observed. -/
def Obligations.LastClockLevelUnobservedOutsideTransmitting : Prop :=
  ∀ (s t : State) (b : Bool), s.linkState ≠ .transmitting → step s = .next t →
    ∃ g, step { s with lastClockLevel := b } = .next { t with lastClockLevel := g } ∧
      (t.linkState = .transmitting → g = t.lastClockLevel)

/-- 43_link.md R110: from a fresh frame, every clock change advances exactly one bit: after `k` of them, `k` at most 20,
the link still transmits with `TxCounter = k`; the twenty-first ends the exchange with the clock low; whatever the
payload. -/
def Obligations.TwentyOneEdgesEndTheExchange : Prop :=
  ∀ s : State, s.linkState = .transmitting → s.activity = .lowPowerWait → s.wakePending = false →
    s.txCounter = 0 → s.lastClockLevel = true → s.clk = true →
    (∀ k ≤ 20, ∃ t, Sys2Proof.core.run (3 * k) { s with schedule := edgeTurns k false } = .next t ∧
      t.linkState = .transmitting ∧ t.txCounter.val = k ∧ t.debounceFlag = s.debounceFlag) ∧
    ∃ t, Sys2Proof.core.run 63 { s with schedule := edgeTurns 21 false } = .next t ∧
      t.linkState = .inactive ∧ t.txCounter = 0 ∧ t.clk = false ∧ t.debounceFlag = s.debounceFlag ∧
      t.dataLevel = false

/-- 43_link.md R112: the events of one complete exchange, from `Inactive` with the data line low, for every pair of
readings that is reported: the sampler's, the ready level, the twenty-one wire bits, the idle level. -/
def Obligations.CompleteExchangeTrace : Prop :=
  ∀ (s : State) (x y : Reading) (rest : List Reading),
    s.linkState = .inactive → s.activity = .lowPowerWait → s.dataLevel = false → s.wakePending = false →
    s.clk = false → s.adcAnswers = x :: y :: rest → (pack x y ≠ 0 ∨ s.debounceFlag = true) →
    s.schedule = exchangeTurns →
    ∃ t, Sys2Proof.core.run exchangeTurns.length s = .next t ∧
      t.trace = s.trace ++ sampleEvents .x x false ++ sampleEvents .y y false ++
        drives (true :: wireBits (pack x y) ++ [false]) ∧
      t.linkState = .inactive ∧ t.debounceFlag = decide (pack x y ≠ 0) ∧ t.rawFrame = 0 ∧ t.adcAnswers = rest ∧
      t.schedule = []

/-- 43_link.md R113: changes of the clock that no step reads between are seen only through their parity: an even number,
two or more, is a stall; an odd number is one edge and sends one bit. -/
def Obligations.OnlyParityOfEdgesIsSeen : Prop :=
  ∀ (s : State) (n : Nat), s.linkState = .transmitting → s.activity = .lowPowerWait →
    s.clk = s.lastClockLevel → s.txCounter.val < 20 → 1 ≤ n → s.schedule = toggles n s.clk ++ [.core, .core] →
    ∃ t, Sys2Proof.core.run (n + 2) s = .next t ∧
      (n % 2 = 0 → t.linkState = .inactive ∧ t.trace = s.trace ++ [.dataDrive false]) ∧
      (n % 2 = 1 → t.linkState = .transmitting ∧ t.txCounter.val = s.txCounter.val + 1 ∧
        t.trace = s.trace ++ [.dataDrive (s.rawFrame.getLsbD 23)])

/-- 70_reset_and_hazards.md R152: a release report that a stall aborts is not repeated: the link re-arms, the next
all-zero capture is suppressed, and no ready level is driven. -/
def Obligations.AbortedReleaseIsNotRepeated : Prop :=
  ∀ (s : State) (rest : List Reading),
    s.linkState = .transmitting → s.activity = .lowPowerWait → s.debounceFlag = false → s.clk = true →
    s.lastClockLevel = true → s.adcAnswers = 0 :: 0 :: rest →
    s.schedule = [.wake, .core, .core, .wake, .core, .core, .wake, .core, .core] →
    ∃ t, Sys2Proof.core.run 9 s = .next t ∧ t.linkState = .capturing ∧ t.ready = false ∧
      t.debounceFlag = false ∧ Event.dataDrive true ∉ t.trace.drop s.trace.length
end

