-- ==== Sys2Proof/Laws/State.lean ====
section
/-! SUPPORT. One lemma per field per update of the primitives and of the plain operations: what each field is after. -/

namespace Sys2Proof.Machine

@[simp] theorem emit_rawFrame (e : Event) (s : State) : (emit e s).rawFrame = s.rawFrame := rfl
@[simp] theorem emit_checksum (e : Event) (s : State) : (emit e s).checksum = s.checksum := rfl
@[simp] theorem emit_txCounter (e : Event) (s : State) : (emit e s).txCounter = s.txCounter := rfl
@[simp] theorem emit_debounceFlag (e : Event) (s : State) : (emit e s).debounceFlag = s.debounceFlag := rfl
@[simp] theorem emit_linkState (e : Event) (s : State) : (emit e s).linkState = s.linkState := rfl
@[simp] theorem emit_lastClockLevel (e : Event) (s : State) : (emit e s).lastClockLevel = s.lastClockLevel := rfl
@[simp] theorem emit_dataLevel (e : Event) (s : State) : (emit e s).dataLevel = s.dataLevel := rfl
@[simp] theorem emit_dataDir (e : Event) (s : State) : (emit e s).dataDir = s.dataDir := rfl
@[simp] theorem emit_panelCfg (e : Event) (s : State) : (emit e s).panelCfg = s.panelCfg := rfl
@[simp] theorem emit_adcEnabled (e : Event) (s : State) : (emit e s).adcEnabled = s.adcEnabled := rfl
@[simp] theorem emit_wakePending (e : Event) (s : State) : (emit e s).wakePending = s.wakePending := rfl
@[simp] theorem emit_activity (e : Event) (s : State) : (emit e s).activity = s.activity := rfl
@[simp] theorem emit_clk (e : Event) (s : State) : (emit e s).clk = s.clk := rfl
@[simp] theorem emit_adcAnswers (e : Event) (s : State) : (emit e s).adcAnswers = s.adcAnswers := rfl
@[simp] theorem emit_schedule (e : Event) (s : State) : (emit e s).schedule = s.schedule := rfl
@[simp] theorem emit_trace (e : Event) (s : State) : (emit e s).trace = s.trace ++ [e] := rfl
@[simp] theorem emit_sampleX (e : Event) (s : State) : (emit e s).sampleX = s.sampleX := rfl
@[simp] theorem emit_sampleY (e : Event) (s : State) : (emit e s).sampleY = s.sampleY := rfl
@[simp] theorem emit_ready (e : Event) (s : State) : (emit e s).ready = s.ready := rfl
@[simp] theorem emit_final (e : Event) (s : State) : (emit e s).final = s.final := rfl
@[simp] theorem emit_draws (e : Event) (s : State) : (emit e s).draws = s.draws := rfl

@[simp] theorem dataDrive_rawFrame (v : Bool) (s : State) : (dataDrive v s).rawFrame = s.rawFrame := rfl
@[simp] theorem dataDrive_checksum (v : Bool) (s : State) : (dataDrive v s).checksum = s.checksum := rfl
@[simp] theorem dataDrive_txCounter (v : Bool) (s : State) : (dataDrive v s).txCounter = s.txCounter := rfl
@[simp] theorem dataDrive_debounceFlag (v : Bool) (s : State) : (dataDrive v s).debounceFlag = s.debounceFlag := rfl
@[simp] theorem dataDrive_linkState (v : Bool) (s : State) : (dataDrive v s).linkState = s.linkState := rfl
@[simp] theorem dataDrive_lastClockLevel (v : Bool) (s : State) : (dataDrive v s).lastClockLevel = s.lastClockLevel := rfl
@[simp] theorem dataDrive_dataLevel (v : Bool) (s : State) : (dataDrive v s).dataLevel = v := rfl
@[simp] theorem dataDrive_dataDir (v : Bool) (s : State) : (dataDrive v s).dataDir = .out := rfl
@[simp] theorem dataDrive_panelCfg (v : Bool) (s : State) : (dataDrive v s).panelCfg = s.panelCfg := rfl
@[simp] theorem dataDrive_adcEnabled (v : Bool) (s : State) : (dataDrive v s).adcEnabled = s.adcEnabled := rfl
@[simp] theorem dataDrive_wakePending (v : Bool) (s : State) : (dataDrive v s).wakePending = s.wakePending := rfl
@[simp] theorem dataDrive_activity (v : Bool) (s : State) : (dataDrive v s).activity = s.activity := rfl
@[simp] theorem dataDrive_clk (v : Bool) (s : State) : (dataDrive v s).clk = s.clk := rfl
@[simp] theorem dataDrive_adcAnswers (v : Bool) (s : State) : (dataDrive v s).adcAnswers = s.adcAnswers := rfl
@[simp] theorem dataDrive_schedule (v : Bool) (s : State) : (dataDrive v s).schedule = s.schedule := rfl
@[simp] theorem dataDrive_trace (v : Bool) (s : State) : (dataDrive v s).trace = s.trace ++ [.dataDrive v] := rfl
@[simp] theorem dataDrive_sampleX (v : Bool) (s : State) : (dataDrive v s).sampleX = s.sampleX := rfl
@[simp] theorem dataDrive_sampleY (v : Bool) (s : State) : (dataDrive v s).sampleY = s.sampleY := rfl
@[simp] theorem dataDrive_ready (v : Bool) (s : State) : (dataDrive v s).ready = s.ready := rfl
@[simp] theorem dataDrive_final (v : Bool) (s : State) : (dataDrive v s).final = s.final := rfl
@[simp] theorem dataDrive_draws (v : Bool) (s : State) : (dataDrive v s).draws = s.draws := rfl

@[simp] theorem dataFloat_rawFrame (s : State) : (dataFloat s).rawFrame = s.rawFrame := rfl
@[simp] theorem dataFloat_checksum (s : State) : (dataFloat s).checksum = s.checksum := rfl
@[simp] theorem dataFloat_txCounter (s : State) : (dataFloat s).txCounter = s.txCounter := rfl
@[simp] theorem dataFloat_debounceFlag (s : State) : (dataFloat s).debounceFlag = s.debounceFlag := rfl
@[simp] theorem dataFloat_linkState (s : State) : (dataFloat s).linkState = s.linkState := rfl
@[simp] theorem dataFloat_lastClockLevel (s : State) : (dataFloat s).lastClockLevel = s.lastClockLevel := rfl
@[simp] theorem dataFloat_dataLevel (s : State) : (dataFloat s).dataLevel = s.dataLevel := rfl
@[simp] theorem dataFloat_dataDir (s : State) : (dataFloat s).dataDir = .float := rfl
@[simp] theorem dataFloat_panelCfg (s : State) : (dataFloat s).panelCfg = s.panelCfg := rfl
@[simp] theorem dataFloat_adcEnabled (s : State) : (dataFloat s).adcEnabled = s.adcEnabled := rfl
@[simp] theorem dataFloat_wakePending (s : State) : (dataFloat s).wakePending = s.wakePending := rfl
@[simp] theorem dataFloat_activity (s : State) : (dataFloat s).activity = s.activity := rfl
@[simp] theorem dataFloat_clk (s : State) : (dataFloat s).clk = s.clk := rfl
@[simp] theorem dataFloat_adcAnswers (s : State) : (dataFloat s).adcAnswers = s.adcAnswers := rfl
@[simp] theorem dataFloat_schedule (s : State) : (dataFloat s).schedule = s.schedule := rfl
@[simp] theorem dataFloat_trace (s : State) : (dataFloat s).trace = s.trace ++ [.dataFloat] := rfl
@[simp] theorem dataFloat_sampleX (s : State) : (dataFloat s).sampleX = s.sampleX := rfl
@[simp] theorem dataFloat_sampleY (s : State) : (dataFloat s).sampleY = s.sampleY := rfl
@[simp] theorem dataFloat_ready (s : State) : (dataFloat s).ready = s.ready := rfl
@[simp] theorem dataFloat_final (s : State) : (dataFloat s).final = s.final := rfl
@[simp] theorem dataFloat_draws (s : State) : (dataFloat s).draws = s.draws := rfl

@[simp] theorem panelDrive_rawFrame (a : Axis) (s : State) : (panelDrive a s).rawFrame = s.rawFrame := rfl
@[simp] theorem panelDrive_checksum (a : Axis) (s : State) : (panelDrive a s).checksum = s.checksum := rfl
@[simp] theorem panelDrive_txCounter (a : Axis) (s : State) : (panelDrive a s).txCounter = s.txCounter := rfl
@[simp] theorem panelDrive_debounceFlag (a : Axis) (s : State) : (panelDrive a s).debounceFlag = s.debounceFlag := rfl
@[simp] theorem panelDrive_linkState (a : Axis) (s : State) : (panelDrive a s).linkState = s.linkState := rfl
@[simp] theorem panelDrive_lastClockLevel (a : Axis) (s : State) : (panelDrive a s).lastClockLevel = s.lastClockLevel := rfl
@[simp] theorem panelDrive_dataLevel (a : Axis) (s : State) : (panelDrive a s).dataLevel = s.dataLevel := rfl
@[simp] theorem panelDrive_dataDir (a : Axis) (s : State) : (panelDrive a s).dataDir = s.dataDir := rfl
@[simp] theorem panelDrive_panelCfg (a : Axis) (s : State) : (panelDrive a s).panelCfg = PanelCfg.driving a := rfl
@[simp] theorem panelDrive_adcEnabled (a : Axis) (s : State) : (panelDrive a s).adcEnabled = s.adcEnabled := rfl
@[simp] theorem panelDrive_wakePending (a : Axis) (s : State) : (panelDrive a s).wakePending = s.wakePending := rfl
@[simp] theorem panelDrive_activity (a : Axis) (s : State) : (panelDrive a s).activity = s.activity := rfl
@[simp] theorem panelDrive_clk (a : Axis) (s : State) : (panelDrive a s).clk = s.clk := rfl
@[simp] theorem panelDrive_adcAnswers (a : Axis) (s : State) : (panelDrive a s).adcAnswers = s.adcAnswers := rfl
@[simp] theorem panelDrive_schedule (a : Axis) (s : State) : (panelDrive a s).schedule = s.schedule := rfl
@[simp] theorem panelDrive_trace (a : Axis) (s : State) : (panelDrive a s).trace = s.trace ++ [.panelDrive a] := rfl
@[simp] theorem panelDrive_sampleX (a : Axis) (s : State) : (panelDrive a s).sampleX = s.sampleX := rfl
@[simp] theorem panelDrive_sampleY (a : Axis) (s : State) : (panelDrive a s).sampleY = s.sampleY := rfl
@[simp] theorem panelDrive_ready (a : Axis) (s : State) : (panelDrive a s).ready = s.ready := rfl
@[simp] theorem panelDrive_final (a : Axis) (s : State) : (panelDrive a s).final = s.final := rfl
@[simp] theorem panelDrive_draws (a : Axis) (s : State) : (panelDrive a s).draws = s.draws := rfl

@[simp] theorem panelIdle_rawFrame (s : State) : (panelIdle s).rawFrame = s.rawFrame := rfl
@[simp] theorem panelIdle_checksum (s : State) : (panelIdle s).checksum = s.checksum := rfl
@[simp] theorem panelIdle_txCounter (s : State) : (panelIdle s).txCounter = s.txCounter := rfl
@[simp] theorem panelIdle_debounceFlag (s : State) : (panelIdle s).debounceFlag = s.debounceFlag := rfl
@[simp] theorem panelIdle_linkState (s : State) : (panelIdle s).linkState = s.linkState := rfl
@[simp] theorem panelIdle_lastClockLevel (s : State) : (panelIdle s).lastClockLevel = s.lastClockLevel := rfl
@[simp] theorem panelIdle_dataLevel (s : State) : (panelIdle s).dataLevel = s.dataLevel := rfl
@[simp] theorem panelIdle_dataDir (s : State) : (panelIdle s).dataDir = s.dataDir := rfl
@[simp] theorem panelIdle_panelCfg (s : State) : (panelIdle s).panelCfg = .idle := rfl
@[simp] theorem panelIdle_adcEnabled (s : State) : (panelIdle s).adcEnabled = false := rfl
@[simp] theorem panelIdle_wakePending (s : State) : (panelIdle s).wakePending = s.wakePending := rfl
@[simp] theorem panelIdle_activity (s : State) : (panelIdle s).activity = s.activity := rfl
@[simp] theorem panelIdle_clk (s : State) : (panelIdle s).clk = s.clk := rfl
@[simp] theorem panelIdle_adcAnswers (s : State) : (panelIdle s).adcAnswers = s.adcAnswers := rfl
@[simp] theorem panelIdle_schedule (s : State) : (panelIdle s).schedule = s.schedule := rfl
@[simp] theorem panelIdle_trace (s : State) : (panelIdle s).trace = s.trace ++ [.panelIdle] := rfl
@[simp] theorem panelIdle_sampleX (s : State) : (panelIdle s).sampleX = s.sampleX := rfl
@[simp] theorem panelIdle_sampleY (s : State) : (panelIdle s).sampleY = s.sampleY := rfl
@[simp] theorem panelIdle_ready (s : State) : (panelIdle s).ready = s.ready := rfl
@[simp] theorem panelIdle_final (s : State) : (panelIdle s).final = s.final := rfl
@[simp] theorem panelIdle_draws (s : State) : (panelIdle s).draws = s.draws := rfl

@[simp] theorem goInactiveOp_rawFrame (s : State) : (goInactiveOp s).rawFrame = s.rawFrame := rfl
@[simp] theorem goInactiveOp_checksum (s : State) : (goInactiveOp s).checksum = false := rfl
@[simp] theorem goInactiveOp_txCounter (s : State) : (goInactiveOp s).txCounter = 0 := rfl
@[simp] theorem goInactiveOp_debounceFlag (s : State) : (goInactiveOp s).debounceFlag = s.debounceFlag := rfl
@[simp] theorem goInactiveOp_linkState (s : State) : (goInactiveOp s).linkState = .inactive := rfl
@[simp] theorem goInactiveOp_lastClockLevel (s : State) : (goInactiveOp s).lastClockLevel = false := rfl
@[simp] theorem goInactiveOp_dataLevel (s : State) : (goInactiveOp s).dataLevel = false := rfl
@[simp] theorem goInactiveOp_dataDir (s : State) : (goInactiveOp s).dataDir = .out := rfl
@[simp] theorem goInactiveOp_panelCfg (s : State) : (goInactiveOp s).panelCfg = s.panelCfg := rfl
@[simp] theorem goInactiveOp_adcEnabled (s : State) : (goInactiveOp s).adcEnabled = s.adcEnabled := rfl
@[simp] theorem goInactiveOp_wakePending (s : State) : (goInactiveOp s).wakePending = s.wakePending := rfl
@[simp] theorem goInactiveOp_activity (s : State) : (goInactiveOp s).activity = s.activity := rfl
@[simp] theorem goInactiveOp_clk (s : State) : (goInactiveOp s).clk = s.clk := rfl
@[simp] theorem goInactiveOp_adcAnswers (s : State) : (goInactiveOp s).adcAnswers = s.adcAnswers := rfl
@[simp] theorem goInactiveOp_schedule (s : State) : (goInactiveOp s).schedule = s.schedule := rfl
@[simp] theorem goInactiveOp_trace (s : State) : (goInactiveOp s).trace = s.trace ++ [.dataDrive false] := rfl
@[simp] theorem goInactiveOp_sampleX (s : State) : (goInactiveOp s).sampleX = s.sampleX := rfl
@[simp] theorem goInactiveOp_sampleY (s : State) : (goInactiveOp s).sampleY = s.sampleY := rfl
@[simp] theorem goInactiveOp_ready (s : State) : (goInactiveOp s).ready = s.ready := rfl
@[simp] theorem goInactiveOp_final (s : State) : (goInactiveOp s).final = s.final := rfl
@[simp] theorem goInactiveOp_draws (s : State) : (goInactiveOp s).draws = s.draws := rfl

@[simp] theorem readyOp_rawFrame (c : Bool) (s : State) : (readyOp c s).rawFrame = s.rawFrame := rfl
@[simp] theorem readyOp_checksum (c : Bool) (s : State) : (readyOp c s).checksum = s.checksum := rfl
@[simp] theorem readyOp_txCounter (c : Bool) (s : State) : (readyOp c s).txCounter = s.txCounter := rfl
@[simp] theorem readyOp_debounceFlag (c : Bool) (s : State) : (readyOp c s).debounceFlag = s.debounceFlag := rfl
@[simp] theorem readyOp_linkState (c : Bool) (s : State) : (readyOp c s).linkState = .transmitting := rfl
@[simp] theorem readyOp_lastClockLevel (c : Bool) (s : State) : (readyOp c s).lastClockLevel = c := rfl
@[simp] theorem readyOp_dataLevel (c : Bool) (s : State) : (readyOp c s).dataLevel = true := rfl
@[simp] theorem readyOp_dataDir (c : Bool) (s : State) : (readyOp c s).dataDir = .out := rfl
@[simp] theorem readyOp_panelCfg (c : Bool) (s : State) : (readyOp c s).panelCfg = s.panelCfg := rfl
@[simp] theorem readyOp_adcEnabled (c : Bool) (s : State) : (readyOp c s).adcEnabled = s.adcEnabled := rfl
@[simp] theorem readyOp_wakePending (c : Bool) (s : State) : (readyOp c s).wakePending = s.wakePending := rfl
@[simp] theorem readyOp_activity (c : Bool) (s : State) : (readyOp c s).activity = s.activity := rfl
@[simp] theorem readyOp_clk (c : Bool) (s : State) : (readyOp c s).clk = s.clk := rfl
@[simp] theorem readyOp_adcAnswers (c : Bool) (s : State) : (readyOp c s).adcAnswers = s.adcAnswers := rfl
@[simp] theorem readyOp_schedule (c : Bool) (s : State) : (readyOp c s).schedule = s.schedule := rfl
@[simp] theorem readyOp_trace (c : Bool) (s : State) : (readyOp c s).trace = s.trace ++ [.dataDrive true] := rfl
@[simp] theorem readyOp_sampleX (c : Bool) (s : State) : (readyOp c s).sampleX = s.sampleX := rfl
@[simp] theorem readyOp_sampleY (c : Bool) (s : State) : (readyOp c s).sampleY = s.sampleY := rfl
@[simp] theorem readyOp_ready (c : Bool) (s : State) : (readyOp c s).ready = s.ready := rfl
@[simp] theorem readyOp_final (c : Bool) (s : State) : (readyOp c s).final = s.final := rfl
@[simp] theorem readyOp_draws (c : Bool) (s : State) : (readyOp c s).draws = s.draws := rfl

@[simp] theorem txChkOp_rawFrame (s : State) : (txChkOp s).rawFrame = s.rawFrame := rfl
@[simp] theorem txChkOp_checksum (s : State) : (txChkOp s).checksum = s.checksum := rfl
@[simp] theorem txChkOp_txCounter (s : State) : (txChkOp s).txCounter = s.txCounter := rfl
@[simp] theorem txChkOp_debounceFlag (s : State) : (txChkOp s).debounceFlag = s.debounceFlag := rfl
@[simp] theorem txChkOp_linkState (s : State) : (txChkOp s).linkState = s.linkState := rfl
@[simp] theorem txChkOp_lastClockLevel (s : State) : (txChkOp s).lastClockLevel = s.lastClockLevel := rfl
@[simp] theorem txChkOp_dataLevel (s : State) : (txChkOp s).dataLevel = s.checksum := rfl
@[simp] theorem txChkOp_dataDir (s : State) : (txChkOp s).dataDir = .out := rfl
@[simp] theorem txChkOp_panelCfg (s : State) : (txChkOp s).panelCfg = s.panelCfg := rfl
@[simp] theorem txChkOp_adcEnabled (s : State) : (txChkOp s).adcEnabled = s.adcEnabled := rfl
@[simp] theorem txChkOp_wakePending (s : State) : (txChkOp s).wakePending = s.wakePending := rfl
@[simp] theorem txChkOp_activity (s : State) : (txChkOp s).activity = s.activity := rfl
@[simp] theorem txChkOp_clk (s : State) : (txChkOp s).clk = s.clk := rfl
@[simp] theorem txChkOp_adcAnswers (s : State) : (txChkOp s).adcAnswers = s.adcAnswers := rfl
@[simp] theorem txChkOp_schedule (s : State) : (txChkOp s).schedule = s.schedule := rfl
@[simp] theorem txChkOp_trace (s : State) : (txChkOp s).trace = s.trace ++ [.dataDrive s.checksum] := rfl
@[simp] theorem txChkOp_sampleX (s : State) : (txChkOp s).sampleX = s.sampleX := rfl
@[simp] theorem txChkOp_sampleY (s : State) : (txChkOp s).sampleY = s.sampleY := rfl
@[simp] theorem txChkOp_ready (s : State) : (txChkOp s).ready = s.ready := rfl
@[simp] theorem txChkOp_final (s : State) : (txChkOp s).final = true := rfl
@[simp] theorem txChkOp_draws (s : State) : (txChkOp s).draws = s.draws := rfl

@[simp] theorem clkTurn_rawFrame (l : Bool) (s : State) : (clkTurn l s).rawFrame = s.rawFrame := rfl
@[simp] theorem clkTurn_checksum (l : Bool) (s : State) : (clkTurn l s).checksum = s.checksum := rfl
@[simp] theorem clkTurn_txCounter (l : Bool) (s : State) : (clkTurn l s).txCounter = s.txCounter := rfl
@[simp] theorem clkTurn_debounceFlag (l : Bool) (s : State) : (clkTurn l s).debounceFlag = s.debounceFlag := rfl
@[simp] theorem clkTurn_linkState (l : Bool) (s : State) : (clkTurn l s).linkState = s.linkState := rfl
@[simp] theorem clkTurn_lastClockLevel (l : Bool) (s : State) : (clkTurn l s).lastClockLevel = s.lastClockLevel := rfl
@[simp] theorem clkTurn_dataLevel (l : Bool) (s : State) : (clkTurn l s).dataLevel = s.dataLevel := rfl
@[simp] theorem clkTurn_dataDir (l : Bool) (s : State) : (clkTurn l s).dataDir = s.dataDir := rfl
@[simp] theorem clkTurn_panelCfg (l : Bool) (s : State) : (clkTurn l s).panelCfg = s.panelCfg := rfl
@[simp] theorem clkTurn_adcEnabled (l : Bool) (s : State) : (clkTurn l s).adcEnabled = s.adcEnabled := rfl
@[simp] theorem clkTurn_wakePending (l : Bool) (s : State) : (clkTurn l s).wakePending = (s.wakePending || (l != s.clk)) := rfl
@[simp] theorem clkTurn_activity (l : Bool) (s : State) : (clkTurn l s).activity = s.activity := rfl
@[simp] theorem clkTurn_clk (l : Bool) (s : State) : (clkTurn l s).clk = l := rfl
@[simp] theorem clkTurn_adcAnswers (l : Bool) (s : State) : (clkTurn l s).adcAnswers = s.adcAnswers := rfl
@[simp] theorem clkTurn_schedule (l : Bool) (s : State) : (clkTurn l s).schedule = s.schedule := rfl
@[simp] theorem clkTurn_trace (l : Bool) (s : State) : (clkTurn l s).trace = s.trace := rfl
@[simp] theorem clkTurn_sampleX (l : Bool) (s : State) : (clkTurn l s).sampleX = s.sampleX := rfl
@[simp] theorem clkTurn_sampleY (l : Bool) (s : State) : (clkTurn l s).sampleY = s.sampleY := rfl
@[simp] theorem clkTurn_ready (l : Bool) (s : State) : (clkTurn l s).ready = s.ready := rfl
@[simp] theorem clkTurn_final (l : Bool) (s : State) : (clkTurn l s).final = s.final := rfl
@[simp] theorem clkTurn_draws (l : Bool) (s : State) : (clkTurn l s).draws = s.draws := rfl

@[simp] theorem txBitOp_debounceFlag (s : State) : (txBitOp s).debounceFlag = s.debounceFlag := rfl
@[simp] theorem txBitOp_linkState (s : State) : (txBitOp s).linkState = s.linkState := rfl
@[simp] theorem txBitOp_lastClockLevel (s : State) : (txBitOp s).lastClockLevel = s.lastClockLevel := rfl
@[simp] theorem txBitOp_panelCfg (s : State) : (txBitOp s).panelCfg = s.panelCfg := rfl
@[simp] theorem txBitOp_adcEnabled (s : State) : (txBitOp s).adcEnabled = s.adcEnabled := rfl
@[simp] theorem txBitOp_wakePending (s : State) : (txBitOp s).wakePending = s.wakePending := rfl
@[simp] theorem txBitOp_activity (s : State) : (txBitOp s).activity = s.activity := rfl
@[simp] theorem txBitOp_clk (s : State) : (txBitOp s).clk = s.clk := rfl
@[simp] theorem txBitOp_adcAnswers (s : State) : (txBitOp s).adcAnswers = s.adcAnswers := rfl
@[simp] theorem txBitOp_schedule (s : State) : (txBitOp s).schedule = s.schedule := rfl
@[simp] theorem txBitOp_sampleX (s : State) : (txBitOp s).sampleX = s.sampleX := rfl
@[simp] theorem txBitOp_sampleY (s : State) : (txBitOp s).sampleY = s.sampleY := rfl
@[simp] theorem txBitOp_ready (s : State) : (txBitOp s).ready = s.ready := rfl
@[simp] theorem txBitOp_final (s : State) : (txBitOp s).final = false := rfl
@[simp] theorem txBitOp_dataDir (s : State) : (txBitOp s).dataDir = .out := rfl
@[simp] theorem txBitOp_dataLevel (s : State) : (txBitOp s).dataLevel = frontBit s.rawFrame := rfl
@[simp] theorem txBitOp_rawFrame (s : State) : (txBitOp s).rawFrame = shiftFrame s.rawFrame := rfl
@[simp] theorem txBitOp_checksum (s : State) :
    (txBitOp s).checksum = checksumStep s.checksum (frontBit s.rawFrame) := rfl
@[simp] theorem txBitOp_trace (s : State) : (txBitOp s).trace = s.trace ++ [.dataDrive (frontBit s.rawFrame)] := rfl

end Sys2Proof.Machine
end

