-- ==== Sys2Proof/Laws/Ops.lean ====
section
/-! SUPPORT. What each shared operation can do, said once; proofs about the meanings cite these. -/

namespace Sys2Proof.Machine

open Sys2Proof.Safety

/-- GO_INACTIVE as one record update (43_link.md R106). -/
theorem goInactiveOp_eq (s : State) :
    goInactiveOp s = { s with
      dataDir := .out, dataLevel := false, txCounter := 0, checksum := false, lastClockLevel := false,
      linkState := .inactive, trace := s.trace ++ [.dataDrive false] } := rfl

/-- TX.CHK as one record update (42_transmit.md R87). -/
theorem txChkOp_eq (s : State) :
    txChkOp s = { s with
      dataDir := .out, dataLevel := s.checksum, final := true, trace := s.trace ++ [.dataDrive s.checksum] } := rfl

/-- TX.BIT below 20 as one record update (42_transmit.md R86). -/
theorem txBitOp_eq (s : State) (h : s.txCounter.val < 20) :
    txBitOp s = { s with
      dataDir := .out, dataLevel := s.rawFrame.getLsbD 23, checksum := s.checksum ^^ s.rawFrame.getLsbD 23,
      rawFrame := s.rawFrame <<< 1, txCounter := ⟨s.txCounter.val + 1, by omega⟩, final := false,
      trace := s.trace ++ [.dataDrive (s.rawFrame.getLsbD 23)] } := by
  have hl : lastBit s.txCounter = false := by
    simp only [lastBit, Config.txLast, beq_eq_false_iff_ne, ne_eq]
    intro e
    rw [e] at h
    exact absurd h (by decide)
  simp [txBitOp, dataDrive, emit, frontBit, shiftFrame, checksumStep, countStep, h, hl]

/-- The selector `t` as a fact about the counter (30_encoding.md R53). -/
theorem lastBit_eq_true (n : Count) : lastBit n = true ↔ n = 20 := by
  simp [lastBit, Config.txLast]

/-- The selector `t` is 0 exactly below 20 (30_encoding.md R53). -/
theorem lastBit_eq_false (n : Count) : lastBit n = false ↔ n.val < 20 := by
  have h := n.isLt
  rw [← Bool.not_eq_true, lastBit_eq_true, Fin.ext_iff]
  have : ((20 : Count) : Nat) = 20 := rfl
  omega

/-- TXSTEP below 20 is TX.BIT (42_transmit.md R88). -/
theorem txStepOp_bit (s : State) (h : s.txCounter.val < 20) : txStepOp s = txBitOp s := by
  simp [txStepOp, (lastBit_eq_false _).2 h]

/-- TXSTEP at 20 is TX.CHK (42_transmit.md R88). -/
theorem txStepOp_chk (s : State) (h : s.txCounter = 20) : txStepOp s = txChkOp s := by
  simp [txStepOp, (lastBit_eq_true _).2 h]

/-- The debounce policy in closed form (41_capture.md R76): `r = nz | f`, the flag becomes `nz`, and the counter is
cleared exactly when a frame is ready. -/
theorem debounceOp_eq (s : State) :
    debounceOp s = { s with
      ready := nonZero s.rawFrame || s.debounceFlag
      debounceFlag := nonZero s.rawFrame
      txCounter := if nonZero s.rawFrame || s.debounceFlag then 0 else s.txCounter } := by
  cases hn : nonZero s.rawFrame <;> cases hf : s.debounceFlag <;>
    simp [debounceOp, debounceKey, hn, hf, debSuppressOp, debReleaseOp, debTouchOp]

/-- A sample whose conversion is answered (40_sampler.md R61, R62): the five events, the pins at rest, the reading
kept. -/
theorem sampleThen_answered (a : Axis) (s : State) (k : State → State) {v : Reading} {rest : List Reading}
    (h : s.adcAnswers = v :: rest) :
    sampleThen a s k = k (keepReading a v { s with
      dataDir := .out, panelCfg := .idle, adcEnabled := false, adcAnswers := rest,
      trace := s.trace ++ sampleEvents a v s.dataLevel }) := by
  simp [sampleThen, h, sampleFinish, sampleStart, panelIdle, emit, dataDrive, dataFloat, panelDrive, sampleEvents]

/-- A sample whose conversion is never answered (40_sampler.md R64): the core is stuck inside it. -/
theorem sampleThen_silent (a : Axis) (s : State) (k : State → State) (h : s.adcAnswers = []) :
    sampleThen a s k = { s with
      dataDir := .float, panelCfg := PanelCfg.driving a, adcEnabled := true, activity := .blocked a,
      trace := s.trace ++ [.panelDrive a, .dataFloat] } := by
  simp [sampleThen, h, sampleStart, dataFloat, panelDrive, emit]

/-- The state a completed CAPTURE of two readings leaves (41_capture.md R76). -/
def captured (x y : Reading) (rest : List Reading) (s : State) : State :=
  { s with
    checksum := false
    rawFrame := pack x y
    sampleX := x
    sampleY := y
    adcAnswers := rest
    ready := nonZero (pack x y) || s.debounceFlag
    debounceFlag := nonZero (pack x y)
    txCounter := if nonZero (pack x y) || s.debounceFlag then 0 else s.txCounter
    dataDir := .out
    panelCfg := .idle
    adcEnabled := false
    trace := s.trace ++ (sampleEvents .x x s.dataLevel ++ sampleEvents .y y s.dataLevel) }

/-- A capture whose two conversions are answered (41_capture.md R76). -/
theorem captureThen_answered (s : State) (k : State → State) {x y : Reading} {rest : List Reading}
    (h : s.adcAnswers = x :: y :: rest) : captureThen s k = k (captured x y rest s) := by
  unfold captureThen
  rw [sampleThen_answered (v := x) (rest := y :: rest) .x _ _ (by simpa using h),
    sampleThen_answered (v := y) (rest := rest) .y _ _ (by simp [keepReading])]
  simp [debounceOp_eq, packOp, keepReading, captured]

/-- A capture whose first conversion is never answered (40_sampler.md R64). -/
theorem captureThen_silent (s : State) (k : State → State) (h : s.adcAnswers = []) :
    captureThen s k = { s with
      checksum := false, dataDir := .float, panelCfg := .driveX, adcEnabled := true, activity := .blocked .x,
      trace := s.trace ++ [.panelDrive .x, .dataFloat] } := by
  unfold captureThen
  rw [sampleThen_silent _ _ _ (by simpa using h)]
  rfl

/-- A capture whose second conversion is never answered (40_sampler.md R64). -/
theorem captureThen_half (s : State) (k : State → State) {x : Reading} (h : s.adcAnswers = [x]) :
    captureThen s k = { s with
      checksum := false, sampleX := x, adcAnswers := [], dataDir := .float, panelCfg := .driveY, adcEnabled := true,
      activity := .blocked .y,
      trace := s.trace ++ (sampleEvents .x x s.dataLevel ++ [.panelDrive .y, .dataFloat]) } := by
  unfold captureThen
  rw [sampleThen_answered (v := x) (rest := []) .x _ _ (by simpa using h),
    sampleThen_silent _ _ _ (by simp [keepReading])]
  simp [keepReading, PanelCfg.driving]

/-- Every capture is one of the three (41_capture.md R76, 40_sampler.md R64). -/
theorem captureThen_cases (s : State) (k : State → State) :
    (∃ x y rest, s.adcAnswers = x :: y :: rest ∧ captureThen s k = k (captured x y rest s)) ∨
      ∃ a x out, captureThen s k = { s with
        checksum := false, sampleX := x, adcAnswers := [], dataDir := .float, panelCfg := PanelCfg.driving a,
        adcEnabled := true, activity := .blocked a, trace := out } := by
  rcases h : s.adcAnswers with _ | ⟨x, _ | ⟨y, rest⟩⟩
  · refine .inr ⟨.x, s.sampleX, s.trace ++ [.panelDrive .x, .dataFloat], ?_⟩
    rw [captureThen_silent s k h]
    simp [h, PanelCfg.driving]
  · exact .inr ⟨.y, x, _, captureThen_half s k h⟩
  · exact .inl ⟨x, y, rest, rfl, captureThen_answered s k h⟩

/-- Driving bits in order changes the data line's side and the trace only. -/
theorem driveBits_eq (bits : List Bool) (s : State) :
    driveBits bits s = { s with
      dataDir := if bits.isEmpty then s.dataDir else .out
      dataLevel := bits.getLastD s.dataLevel
      trace := s.trace ++ drives bits } := by
  induction bits generalizing s with
  | nil => simp [driveBits, drives]
  | cons b bs ih =>
    rw [driveBits, ih]
    cases bs with
    | nil => simp [dataDrive, emit, drives]
    | cons c cs => simp only [dataDrive, emit, drives, List.getLastD_cons, List.map_cons, List.append_assoc,
        List.cons_append, List.nil_append, List.isEmpty_cons, Bool.false_eq_true, if_false]

/-- WAIT with a wake pending (43_link.md R107). -/
theorem waitOp_wake (s : State) (h : s.wakePending = true) :
    waitOp s = { s with wakePending := false, activity := .running } := by simp [waitOp, h]

/-- WAIT with no wake pending: the core stays in the wait (43_link.md R107). -/
theorem waitOp_sleep (s : State) (h : s.wakePending = false) : waitOp s = { s with activity := .lowPowerWait } := by
  simp [waitOp, h]

/-- POWER_ON as one record update (70_reset_and_hazards.md R140). -/
theorem powerOnOp_eq (s : State) :
    powerOnOp s = { s with
      rawFrame := Config.powerOnFrame s.draws, checksum := false, txCounter := 0, debounceFlag := false,
      linkState := .inactive, lastClockLevel := false, dataLevel := false, dataDir := .out, panelCfg := .idle,
      adcEnabled := false, wakePending := false, activity := .lowPowerWait, sampleX := 0, sampleY := 0,
      ready := false, final := false, draws := s.draws + 1,
      trace := s.trace ++ [.panelIdle, .dataDrive false] } := by
  simp [powerOnOp, dataDrive, panelIdle, emit]

/-- LINK_STEP in `Inactive` (43_link.md R97, R98). -/
theorem linkStepOp_inactive (s : State) (h : s.linkState = .inactive) :
    linkStepOp s = if s.clk then { s with linkState := .capturing } else s := by
  unfold linkStepOp
  split
  · rfl
  · simp_all
  · simp_all

/-- LINK_STEP in `Capturing` (43_link.md R99 to R101). -/
theorem linkStepOp_capturing (s : State) (h : s.linkState = .capturing) :
    linkStepOp s = if s.clk then captureThen s (fun t => if t.ready then readyOp s.clk t else t)
      else goInactiveOp s := by
  unfold linkStepOp
  split
  · simp_all
  · rfl
  · simp_all

/-- LINK_STEP in `Transmitting` (43_link.md R102 to R105). -/
theorem linkStepOp_transmitting (s : State) (h : s.linkState = .transmitting) :
    linkStepOp s = if edgeBit s.clk s.lastClockLevel then
      (if (txStepOp { s with lastClockLevel := s.clk }).final then
        goInactiveOp (txStepOp { s with lastClockLevel := s.clk })
      else txStepOp { s with lastClockLevel := s.clk })
    else goInactiveOp s := by
  unfold linkStepOp
  split
  · simp_all
  · simp_all
  · rfl

/-- What a LINK_STEP can do: one of the seven rows of 43_link.md R109 that a state selects by itself (the row of a
capture is LNK.SUPP or LNK.READY by its result). -/
theorem linkStepOp_cases (s : State) :
    (s.linkState = .inactive ∧ s.clk = false ∧ linkStepOp s = s) ∨
    (s.linkState = .inactive ∧ s.clk = true ∧ linkStepOp s = { s with linkState := .capturing }) ∨
    (s.linkState = .capturing ∧ s.clk = false ∧ linkStepOp s = goInactiveOp s) ∨
    (s.linkState = .capturing ∧ s.clk = true ∧
      linkStepOp s = captureThen s (fun t => if t.ready then readyOp true t else t)) ∨
    (s.linkState = .transmitting ∧ s.clk = s.lastClockLevel ∧ linkStepOp s = goInactiveOp s) ∨
    (s.linkState = .transmitting ∧ s.clk = (!s.lastClockLevel) ∧ s.txCounter.val < 20 ∧
      linkStepOp s = txBitOp { s with lastClockLevel := s.clk }) ∨
    (s.linkState = .transmitting ∧ s.clk = (!s.lastClockLevel) ∧ s.txCounter = 20 ∧
      linkStepOp s = goInactiveOp (txChkOp { s with lastClockLevel := s.clk })) := by
  obtain hl | hl | hl : s.linkState = .inactive ∨ s.linkState = .capturing ∨ s.linkState = .transmitting := by
    cases s.linkState <;> simp
  · have hw := linkStepOp_inactive s hl
    by_cases hc : s.clk = true
    · exact .inr (.inl ⟨hl, hc, by rw [hw, if_pos hc]⟩)
    · exact .inl ⟨hl, by simpa using hc, by rw [hw, if_neg hc]⟩
  · have hw := linkStepOp_capturing s hl
    by_cases hc : s.clk = true
    · exact .inr (.inr (.inr (.inl ⟨hl, hc, by rw [hw, if_pos hc, hc]⟩)))
    · exact .inr (.inr (.inl ⟨hl, by simpa using hc, by rw [hw, if_neg hc]⟩))
  · have hw := linkStepOp_transmitting s hl
    by_cases he : s.clk = s.lastClockLevel
    · refine .inr (.inr (.inr (.inr (.inl ⟨hl, he, ?_⟩))))
      rw [hw, if_neg (by simp [edgeBit, he])]
    · have he' : s.clk = (!s.lastClockLevel) := by
        revert he
        cases s.clk <;> cases s.lastClockLevel <;> simp
      rw [if_pos (by simp [edgeBit, he'])] at hw
      by_cases ht : s.txCounter.val < 20
      · refine .inr (.inr (.inr (.inr (.inr (.inl ⟨hl, he', ht, ?_⟩)))))
        rw [hw, txStepOp_bit { s with lastClockLevel := s.clk } ht]
        rfl
      · have h20 : s.txCounter = 20 := by
          apply (lastBit_eq_true _).1
          rw [← Bool.not_eq_false, lastBit_eq_false]
          exact ht
        refine .inr (.inr (.inr (.inr (.inr (.inr ⟨hl, he', h20, ?_⟩)))))
        rw [hw, txStepOp_chk { s with lastClockLevel := s.clk } h20]
        rfl

/-- The end of a LINK_STEP that returned: WAIT is next (43_link.md R108). -/
theorem endStep_returned (s : State) (h : ∀ a, s.activity ≠ .blocked a) :
    endStep s = { s with activity := .lowPowerWait } := by
  unfold endStep
  split
  · next a ha => exact absurd ha (h a)
  · rfl

/-- The end of a LINK_STEP that never returned (40_sampler.md R64). -/
theorem endStep_blocked (s : State) {a : Axis} (h : s.activity = .blocked a) : endStep s = s := by simp [endStep, h]

/-- The core's move inside a sample that never ends (40_sampler.md R64). -/
theorem coreMove_blocked (s : State) {a : Axis} (h : s.activity = .blocked a) : coreMove s = s := by
  simp [coreMove, h]

/-- The core's move inside the wait (43_link.md R107). -/
theorem coreMove_wait (s : State) (h : s.activity = .lowPowerWait) : coreMove s = waitOp s := by simp [coreMove, h]

/-- The core's move after the wait (43_link.md R108). -/
theorem coreMove_running (s : State) (h : s.activity = .running) : coreMove s = endStep (linkStepOp s) := by
  simp [coreMove, h]

end Sys2Proof.Machine
end

