-- ==== Sys2Proof/Laws/PerInstr.lean ====
section
/-! SUPPORT. The per-operation family `KeyFits`: the key of an operation fits the bits of its format, so that its bytes
read back as that number (30_encoding.md R52 to R54, R45, R48). -/

namespace Sys2Proof.Laws.KeyFits

/-- The bytes of an operation are as many as its format takes and hold its key, which fits the key's bits. -/
def Statement (i : Instr) : Prop :=
  encodeKey i < 2 ^ keyBits (selectorOf i) ∧ (encode i).length = keyBytes (selectorOf i) ∧
    ofBytes (encode i) = encodeKey i

/-- A number below `256 ^ 3` is held by three bytes. -/
theorem ofBytes_toBytes_three (n : Nat) (h : n < 2 ^ 24) : ofBytes (toBytes 3 n) = n := by
  simp only [toBytes, ofBytes, List.foldl, BitVec.toNat_ofNat]
  omega

theorem lnkIdle : Statement .lnkIdle := by unfold Statement; decide
theorem lnkArm : Statement .lnkArm := by unfold Statement; decide
theorem lnkAbort : Statement .lnkAbort := by unfold Statement; decide
theorem lnkSupp : Statement .lnkSupp := by unfold Statement; decide
theorem lnkReady : Statement .lnkReady := by unfold Statement; decide
theorem lnkStall (c : Bool) : Statement (.lnkStall c) := by cases c <;> unfold Statement <;> decide
theorem lnkBit (c : Bool) : Statement (.lnkBit c) := by cases c <;> unfold Statement <;> decide
theorem lnkLast (c : Bool) : Statement (.lnkLast c) := by cases c <;> unfold Statement <;> decide
theorem txBit : Statement .txBit := by unfold Statement; decide
theorem txChk : Statement .txChk := by unfold Statement; decide
theorem debSuppress : Statement .debSuppress := by unfold Statement; decide
theorem debRelease : Statement .debRelease := by unfold Statement; decide
theorem debTouch : Statement .debTouch := by unfold Statement; decide
theorem sampleX : Statement .sampleX := by unfold Statement; decide
theorem sampleY : Statement .sampleY := by unfold Statement; decide
theorem pack : Statement .pack := by unfold Statement; decide
theorem capture : Statement .capture := by unfold Statement; decide
theorem txstep : Statement .txstep := by unfold Statement; decide
theorem goInactive : Statement .goInactive := by unfold Statement; decide
theorem linkStep : Statement .linkStep := by unfold Statement; decide
theorem wait : Statement .wait := by unfold Statement; decide
theorem powerOn : Statement .powerOn := by unfold Statement; decide
theorem run : Statement .run := by unfold Statement; decide

theorem rawFrame (x y : Reading) : Statement (.rawFrame x y) := by
  have hk : encodeKey (.rawFrame x y) < 2 ^ 24 := by
    have := x.isLt
    have := y.isLt
    simp only [encodeKey]
    omega
  have he : encode (.rawFrame x y) = toBytes 3 (encodeKey (.rawFrame x y)) := by
    simp [encode, keyBytes, keyBits, selectorOf]
  refine ⟨hk, ?_, ?_⟩
  · simp [he, keyBytes, keyBits, selectorOf, toBytes]
  · rw [he, ofBytes_toBytes_three _ (by omega)]

theorem wireFrame (x y : Reading) (k : Bool) : Statement (.wireFrame x y k) := by
  have hk : encodeKey (.wireFrame x y k) < 2 ^ 21 := by
    have := x.isLt
    have := y.isLt
    have : k.toNat < 2 := k.toNat_lt
    simp only [encodeKey]
    omega
  have he : encode (.wireFrame x y k) = toBytes 3 (encodeKey (.wireFrame x y k)) := by
    simp [encode, keyBytes, keyBits, selectorOf]
  refine ⟨hk, ?_, ?_⟩
  · simp [he, keyBytes, keyBits, selectorOf, toBytes]
  · rw [he, ofBytes_toBytes_three _ (by omega)]

end Sys2Proof.Laws.KeyFits
end

