-- ==== Sys2Proof/Tests/Slice0.lean ====
section
/-! SUPPORT. Own tests: ill-formed terms, words written out from the spec's encodings, one step per operation with the
result 95_test_vectors.md gives, and states that meet the hypotheses of the statements. -/

open Sys2Proof Sys2Proof.Machine Sys2Proof.Safety

namespace Sys2Proof.Tests

/-! ## Helpers -/

/-- The reset state with an empty trace. -/
def base : State := { State.reset with trace := [] }

/-- A capturing link with the clock high, the given flag and answers. -/
def capturing (flag : Bool) (answers : List Reading) : State :=
  { base with linkState := .capturing, clk := true, debounceFlag := flag, adcAnswers := answers }

/-- A transmitting link after a touch: frame, checksum, counter, last clock level, clock. -/
def sending (f : Frame) (chk : Bool) (n : Count) (last clk : Bool) : State :=
  { base with
    linkState := .transmitting, rawFrame := f, checksum := chk, txCounter := n, lastClockLevel := last, clk := clk,
    debounceFlag := true, dataLevel := true }

/-- The state of the outcome, looked at through a function. -/
def after {α : Type} (look : State → α) : Host.Outcome State Fault Refusal → Option α
  | .next t => some (look t)
  | _ => none

/-- The columns LINKREG, RawFrame, DATA and the events of 95_test_vectors.md. -/
def columns (t : State) : LinkReg × Frame × Bool × List Event := (linkreg t, t.rawFrame, t.dataLevel, t.trace)

/-- The columns RawFrame, Chk, Cnt, `final` and the events of V-TX. -/
def txColumns (t : State) : Frame × Bool × Nat × Bool × List Event :=
  (t.rawFrame, t.checksum, t.txCounter.val, t.final, t.trace)

/-! ## WellFormed: its one check refuses an ill-formed term -/

theorem test_wellFormed_refuses_wrong_checksum : WellFormed (.wireFrame 1 0 false) = false := by decide
theorem test_wellFormed_refuses_wrong_zero_checksum : WellFormed (.wireFrame 1023 0 true) = false := by decide
theorem test_wellFormed_accepts_the_spec_frame : WellFormed (.wireFrame 677 317 true) = true := by decide

/-! ## Decode: words written out from the patterns of 30_encoding.md R54, R45, R48 -/

/-- `000ert` with e = r = t = 1. -/
theorem test_decode_lnkIdle : decode .lnk [0b000111#8] = .ok .lnkIdle := by decide
/-- `001ert`. -/
theorem test_decode_lnkArm : decode .lnk [0b001010#8] = .ok .lnkArm := by decide
/-- `010ert`. -/
theorem test_decode_lnkAbort : decode .lnk [0b010101#8] = .ok .lnkAbort := by decide
/-- `011e0t`. -/
theorem test_decode_lnkSupp : decode .lnk [0b011101#8] = .ok .lnkSupp := by decide
/-- `011e1t`. -/
theorem test_decode_lnkReady : decode .lnk [0b011110#8] = .ok .lnkReady := by decide
/-- `10c0rt` with c = 1. -/
theorem test_decode_lnkStall : decode .lnk [0b101011#8] = .ok (.lnkStall true) := by decide
/-- `10c1r0` with c = 0. -/
theorem test_decode_lnkBit : decode .lnk [0b100110#8] = .ok (.lnkBit false) := by decide
/-- `10c1r1` with c = 1. -/
theorem test_decode_lnkLast : decode .lnk [0b101101#8] = .ok (.lnkLast true) := by decide
/-- TXS pattern `0`. -/
theorem test_decode_txBit : decode .txs [0b0#8] = .ok .txBit := by decide
/-- TXS pattern `1`. -/
theorem test_decode_txChk : decode .txs [0b1#8] = .ok .txChk := by decide
/-- DEB pattern `00`. -/
theorem test_decode_debSuppress : decode .deb [0b00#8] = .ok .debSuppress := by decide
/-- DEB pattern `01`. -/
theorem test_decode_debRelease : decode .deb [0b01#8] = .ok .debRelease := by decide
/-- DEB pattern `1f` with f = 1. -/
theorem test_decode_debTouch : decode .deb [0b11#8] = .ok .debTouch := by decide
/-- SMP pattern `0`. -/
theorem test_decode_sampleX : decode .smp [0b0#8] = .ok .sampleX := by decide
/-- SMP pattern `1`. -/
theorem test_decode_sampleY : decode .smp [0b1#8] = .ok .sampleY := by decide
/-- UNC: a zero-width key, the caller names the operation. -/
theorem test_decode_pack : decode (.unc .pack) [] = .ok .pack := by decide
theorem test_decode_capture : decode (.unc .capture) [] = .ok .capture := by decide
theorem test_decode_txstep : decode (.unc .txstep) [] = .ok .txstep := by decide
theorem test_decode_goInactive : decode (.unc .goInactive) [] = .ok .goInactive := by decide
theorem test_decode_linkStep : decode (.unc .linkStep) [] = .ok .linkStep := by decide
theorem test_decode_wait : decode (.unc .wait) [] = .ok .wait := by decide
theorem test_decode_powerOn : decode (.unc .powerOn) [] = .ok .powerOn := by decide
theorem test_decode_run : decode (.unc .run) [] = .ok .run := by decide
/-- V-PACK: 677, 316 is 0xA953C0. -/
theorem test_decode_rawFrame : decode .data24 [0xA9#8, 0x53#8, 0xC0#8] = .ok (.rawFrame 677 316) := by decide
/-- V-CHK: `1010100101 0100111101 1`, in three bytes `000 10101 00101010 01111011`. -/
theorem test_decode_wireFrame :
    decode .data21 [0b00010101#8, 0b00101010#8, 0b01111011#8] = .ok (.wireFrame 677 317 true) := by decide

theorem test_decode_refuses_reserved_state : decode .lnk [0b111111#8] = .error .reservedLinkState := by decide
theorem test_decode_refuses_bits_above_key : decode .deb [0b100#8] = .error .bitsAboveKey := by decide
theorem test_decode_refuses_wrong_length : decode .lnk [0#8, 0#8] = .error .wrongLength := by decide
theorem test_decode_refuses_padding : decode .data24 [0#8, 0#8, 1#8] = .error .paddingNotZero := by decide
theorem test_table_word_is_a_dispatch_word : decodeTableWord 8 0b100100 = some (.lnkBit false) := by decide
theorem test_table_word_of_the_reserved_state : decodeTableWord 8 0b110000 = none := by decide

/-! ## One step per operation: V-LNK -/

theorem test_lnkIdle : after columns (exec .lnkIdle { base with debounceFlag := true }) =
    some (0x008#10, 0#24, false, []) := by decide

theorem test_lnkArm : after columns (exec .lnkArm { base with debounceFlag := true, rawFrame := 0x4A9E00#24 }) =
    some (0x009#10, 0x4A9E00#24, false, []) := by decide

theorem test_lnkAbort : after columns (exec .lnkAbort (capturing true [])) =
    some (0x008#10, 0#24, false, [.dataDrive false]) := by decide

theorem test_lnkSupp : after columns (exec .lnkSupp (capturing false [0, 0])) =
    some (0x001#10, 0#24, false, [.panelDrive .x, .dataFloat, .adcConvert .x 0, .panelIdle, .dataDrive false,
      .panelDrive .y, .dataFloat, .adcConvert .y 0, .panelIdle, .dataDrive false]) := by decide

theorem test_lnkReady_touch : after columns (exec .lnkReady (capturing false [1023, 0])) =
    some (0x00E#10, 0xFFC000#24, true, [.panelDrive .x, .dataFloat, .adcConvert .x 1023, .panelIdle, .dataDrive false,
      .panelDrive .y, .dataFloat, .adcConvert .y 0, .panelIdle, .dataDrive false, .dataDrive true]) := by decide

theorem test_lnkReady_release :
    after (fun t => (linkreg t, t.rawFrame, t.dataLevel)) (exec .lnkReady (capturing true [0, 0])) =
      some (0x006#10, 0#24, true) := by decide

theorem test_lnkStall_mid_frame :
    after columns (exec (.lnkStall false) (sending 0x4A9E00#24 false 3 false false)) =
      some (0x008#10, 0x4A9E00#24, false, [.dataDrive false]) := by decide

theorem test_lnkStall_before_checksum : after columns (exec (.lnkStall true) (sending 0#24 true 20 true true)) =
    some (0x008#10, 0#24, false, [.dataDrive false]) := by decide

theorem test_lnkBit_falling : after columns (exec (.lnkBit false) (sending 0xFFC000#24 false 0 true false)) =
    some (0x03A#10, 0xFF8000#24, true, [.dataDrive true]) := by decide

theorem test_lnkBit_rising : after columns (exec (.lnkBit true) (sending 0xFF8000#24 true 1 false true)) =
    some (0x04E#10, 0xFF0000#24, true, [.dataDrive true]) := by decide

theorem test_lnkLast : after columns (exec (.lnkLast false) (sending 0#24 true 20 true false)) =
    some (0x008#10, 0#24, false, [.dataDrive true, .dataDrive false]) := by decide

/-! ## V-TX -/

theorem test_txBit_bit23_clear : after txColumns (exec .txBit (sending 0x7FFFF0#24 false 0 true false)) =
    some (0xFFFFE0#24, false, 1, false, [.dataDrive false]) := by decide

theorem test_txBit_last_payload_bit : after txColumns (exec .txBit (sending 0x800000#24 false 19 true false)) =
    some (0#24, true, 20, false, [.dataDrive true]) := by decide

theorem test_txChk : after txColumns (exec .txChk (sending 0#24 true 20 true false)) =
    some (0#24, true, 20, true, [.dataDrive true]) := by decide

theorem test_txstep_at_19 : after txColumns (exec .txstep (sending 0#24 false 19 true false)) =
    some (0#24, false, 20, false, [.dataDrive false]) := by decide

theorem test_txstep_at_20 : after txColumns (exec .txstep (sending 0#24 false 20 true false)) =
    some (0#24, false, 20, true, [.dataDrive false]) := by decide

/-! ## V-DEB, V-SAMPLE, V-PACK, V-CAPTURE -/

theorem test_debSuppress : after (fun t => (t.ready, t.debounceFlag, t.txCounter))
    (exec .debSuppress { base with ready := true, txCounter := 7 }) = some (false, false, 7) := by decide

theorem test_debRelease : after (fun t => (t.ready, t.debounceFlag, t.txCounter))
    (exec .debRelease { base with debounceFlag := true, txCounter := 7 }) = some (true, false, 0) := by decide

theorem test_debTouch : after (fun t => (t.ready, t.debounceFlag, t.txCounter))
    (exec .debTouch { base with txCounter := 7 }) = some (true, true, 0) := by decide

theorem test_sampleX_restores_the_level :
    after (fun t => (t.sampleX, t.trace)) (exec .sampleX { base with dataLevel := true, adcAnswers := [5] }) =
      some (5, [.panelDrive .x, .dataFloat, .adcConvert .x 5, .panelIdle, .dataDrive true]) := by decide

theorem test_sampleX_never_answered :
    after (fun t => (t.dataDir, t.panelCfg, t.adcEnabled, t.activity, t.trace)) (exec .sampleX base) =
      some (.float, .driveX, true, .blocked .x, [.panelDrive .x, .dataFloat]) := by decide

theorem test_sampleY : after (fun t => (t.sampleY, t.trace)) (exec .sampleY { base with adcAnswers := [316] }) =
    some (316, [.panelDrive .y, .dataFloat, .adcConvert .y 316, .panelIdle, .dataDrive false]) := by decide

theorem test_pack : after (·.rawFrame) (exec .pack { base with sampleX := 677, sampleY := 316 }) =
    some 0xA953C0#24 := by decide

theorem test_pack_low_bits : after (·.rawFrame) (exec .pack { base with sampleX := 1, sampleY := 1 }) =
    some 0x004010#24 := by decide

theorem test_capture_touch : after (fun t => (t.debounceFlag, t.checksum, t.txCounter, t.rawFrame, t.ready))
    (exec .capture { base with checksum := true, rawFrame := 0x4A9E00#24, adcAnswers := [677, 316] }) =
      some (true, false, 0, 0xA953C0#24, true) := by decide

theorem test_capture_release : after (fun t => (t.debounceFlag, t.rawFrame, t.ready))
    (exec .capture { base with debounceFlag := true, adcAnswers := [0, 0] }) = some (false, 0#24, true) := by decide

/-! ## The rest: the example of 43_link.md R106, P1 to P5, WAIT, POWER_ON, RUN, the data formats -/

theorem test_goInactive :
    after columns (exec .goInactive { sending 0x345000#24 true 12 true true with dataLevel := true }) =
      some (0x008#10, 0x345000#24, false, [.dataDrive false]) := by decide

/-- P4, step 23. -/
theorem test_linkStep_last : after columns (exec .linkStep (sending 0#24 true 20 true false)) =
    some (0x008#10, 0#24, false, [.dataDrive true, .dataDrive false]) := by decide

/-- P5, step 2. -/
theorem test_linkStep_ready :
    after (fun t => (linkreg t, t.rawFrame, t.dataLevel)) (exec .linkStep (capturing false [5, 9])) =
      some (0x00E#10, 0x014090#24, true) := by decide

theorem test_wait_returns : after (fun t => (t.wakePending, t.activity)) (exec .wait { base with wakePending := true }) =
    some (false, .running) := by decide

theorem test_wait_stays : after (fun t => (t.wakePending, t.activity)) (exec .wait base) =
    some (false, .lowPowerWait) := by decide

theorem test_powerOn : after (fun t => (linkreg t, t.dataLevel, t.dataDir, t.panelCfg, t.trace))
    (exec .powerOn (sending 0#24 true 12 true true)) =
      some (0x000#10, false, .out, .idle, [.panelIdle, .dataDrive false]) := by decide

/-- P1, step 1, from POWER_ON. -/
theorem test_run : after (fun t => (linkreg t, t.trace))
    (exec .run { sending 0#24 true 3 true false with schedule := [.clk true, .core, .core] }) =
      some (0x001#10, [.panelIdle, .dataDrive false]) := by decide

theorem test_rawFrame : after (·.rawFrame) (exec (.rawFrame 0 1023) base) = some 0x003FF0#24 := by decide

/-- V-CHK: `1010100101 0100111101 1`. -/
theorem test_wireFrame : after (·.trace) (exec (.wireFrame 677 317 true) base) =
    some ([true, false, true, false, true, false, false, true, false, true,
      false, true, false, false, true, true, true, true, false, true, true].map Event.dataDrive) := by decide

/-- `W0` in `Transmitting`: the dispatch word 1001x0 of P4, step 3, performed by the very next step. -/
theorem test_step_runs_the_staged_word :
    after (fun t => (linkreg t, t.rawFrame, t.activity))
      (step ((sending 0xA953D0#24 false 0 false false).withFetchWord 8 0b100100)) =
        some (0x03A#10, 0x52A7A0#24, .lowPowerWait) := by decide

/-! ## Witnesses: states and operands that meet the hypotheses of the statements, one for each clause -/

theorem witness_HostViewOfData : { base with dataDir := .float }.dataDir = .float ∧ base.dataDir = .out := by decide

theorem witness_PanelEdgesDriven : base.panelCfg = .idle ∧ { base with panelCfg := .driveX }.panelCfg = .driveX ∧
    { base with panelCfg := .driveY }.panelCfg = .driveY := by decide

theorem witness_DecodeOfEncode : WellFormed (.wireFrame 1 0 true) = true ∧ WellFormed (.lnkBit true) = true := by decide

theorem witness_EncodeOfDecodedData : decode .data24 [0xFF#8, 0xFF#8, 0xF0#8] = .ok (.rawFrame 1023 1023) ∧
    decode .data21 [0x1F#8, 0xFF#8, 0xFF#8] = .ok (.wireFrame 1023 1023 true) := by decide

theorem witness_DispatchWordBits :
    ((sending 0#24 false 20 true false).linkState = .transmitting ∧
      (sending 0#24 false 20 true false).clk ≠ (sending 0#24 false 20 true false).lastClockLevel) ∧
    ∃ t, (capturing true [0, 0]).linkState = .capturing ∧ (capturing true [0, 0]).clk = true ∧
      2 ≤ (capturing true [0, 0]).adcAnswers.length ∧ exec .capture (capturing true [0, 0]) = .next t :=
  ⟨by decide, _, rfl, rfl, by decide, rfl⟩

theorem witness_SampleReads : (capturing false [1023]).adcAnswers = 1023 :: [] := by decide

theorem witness_UnansweredSampleIsStuck :
    base.adcAnswers = [] ∧
    ({ base with activity := .blocked .x }.activity = .blocked .x ∧ { base with activity := .blocked .x }.schedule = []) ∧
    ({ base with activity := .blocked .y, schedule := [.core, .wake] }.activity = .blocked .y ∧
      { base with activity := .blocked .y, schedule := [.core, .wake] }.schedule = .core :: [.wake]) := by decide

/-- The callers of a sample with no answer, and with one. -/
theorem witness_UnansweredSampleIsStuck_callers :
    ((capturing true []).adcAnswers = [] ∧ (capturing true []).linkState = .capturing ∧
      (capturing true []).clk = true) ∧
    ((capturing false [1023]).adcAnswers = [1023] ∧ (capturing false [1023]).linkState = .capturing ∧
      (capturing false [1023]).clk = true) := by decide

theorem witness_CaptureClosedForm : (capturing false [0, 1]).adcAnswers = 0 :: 1 :: [] := by decide

theorem witness_DebounceLaw : ((0 : Reading), (1 : Reading)) ≠ (0, 0) ∧ base.debounceFlag = false := by decide

theorem witness_below_the_last_bit : (sending 0#24 false 19 true false).txCounter.val < 20 ∧
    (sending 0#24 false 0 true false).txCounter.val < 20 := by decide

theorem witness_at_the_last_bit : (sending 0#24 true 20 true false).txCounter = 20 ∧
    (sending 0#24 true 20 true false).txCounter.val = 20 := by decide

theorem witness_TxstepsDriveTheWireFrame : (sending 0xFFC000#24 false 0 true false).checksum = false ∧
    (sending 0xFFC000#24 false 0 true false).txCounter = 0 ∧ (1 ≤ 20 ∧ 20 ≤ 20) := by decide

theorem witness_GoInactiveResetsTheLink : ∃ t, exec .goInactive (sending 0#24 true 12 true true) = .next t := ⟨_, rfl⟩

theorem witness_SuppressedCaptureStaysCapturing :
    (capturing false [0, 0]).debounceFlag = false ∧ (capturing false [0, 0]).adcAnswers = 0 :: 0 :: [] := by decide

theorem witness_ReadyEntersTransmitting :
    ((capturing false [0, 1]).adcAnswers = 0 :: 1 :: [] ∧ pack 0 1 ≠ 0) ∧
    ((capturing true [0, 0]).adcAnswers = 0 :: 0 :: [] ∧ (capturing true [0, 0]).debounceFlag = true) := by decide

/-- The rows of `Inactive` and `Capturing`. -/
theorem witness_TransitionTable_quiet :
    (base.dataLevel = false ∧ base.linkState = .inactive ∧ base.clk = false) ∧
    ({ base with clk := true }.linkState = .inactive ∧ { base with clk := true }.clk = true) ∧
    ({ capturing true [] with clk := false }.clk = false ∧ (capturing true []).linkState = .capturing) ∧
    ((capturing false [0, 0]).dataLevel = false ∧ (capturing false [0, 0]).linkState = .capturing ∧
      (capturing false [0, 0]).clk = true ∧ (capturing false [0, 0]).adcAnswers = 0 :: 0 :: [] ∧ pack 0 0 = 0 ∧
      (capturing false [0, 0]).debounceFlag = false) ∧
    ((capturing true [0, 0]).dataLevel = false ∧ (capturing true [0, 0]).adcAnswers = 0 :: 0 :: [] ∧
      ¬(pack 0 0 = 0 ∧ (capturing true [0, 0]).debounceFlag = false)) := by decide

/-- The rows of `Transmitting`. -/
theorem witness_TransitionTable_transmitting :
    (sending 0#24 false 0 true true).linkState = .transmitting ∧
    (sending 0#24 false 0 true true).clk = (sending 0#24 false 0 true true).lastClockLevel ∧
    ((sending 0#24 false 19 true false).clk ≠ (sending 0#24 false 19 true false).lastClockLevel ∧
      (sending 0#24 false 19 true false).txCounter.val < 20) ∧
    ((sending 0#24 false 20 true false).clk ≠ (sending 0#24 false 20 true false).lastClockLevel ∧
      (sending 0#24 false 20 true false).txCounter.val = 20) := by decide

theorem witness_WaitReturnsOnAWake : { base with wakePending := true }.wakePending = true ∧
    base.wakePending = false := by decide

/-- An operation that returns, with nothing scheduled. -/
theorem witness_StepRunsTheFetchedArm : ∃ i t,
    { sending 0#24 true 20 true false with activity := .running }.schedule = [] ∧
    { sending 0#24 true 20 true false with activity := .running }.activity = .running ∧
    fetch { sending 0#24 true 20 true false with activity := .running } = .ok i ∧
    exec i { sending 0#24 true 20 true false with activity := .running } = .next t ∧
    ∀ a, t.activity ≠ .blocked a :=
  ⟨.lnkLast false, _, rfl, rfl, by decide, rfl, fun a => by cases a <;> decide⟩

/-- An operation that never returns. -/
theorem witness_StepRunsTheFetchedArm_stuck : ∃ i t,
    { capturing false [3] with activity := .running }.activity = .running ∧
    fetch { capturing false [3] with activity := .running } = .ok i ∧
    exec i { capturing false [3] with activity := .running } = .next t ∧ t.activity = .blocked .y :=
  ⟨.lnkSupp, _, rfl, by decide, rfl, rfl⟩

theorem witness_StepInTheWait : base.activity = .lowPowerWait ∧ base.wakePending = false ∧ base.schedule = [] ∧
    { base with wakePending := true }.activity = .lowPowerWait ∧ { base with wakePending := true }.wakePending = true := by
  decide

theorem witness_OutsideTurnsSetTheWakeLatch :
    { base with schedule := [.clk true, .core] }.schedule = .clk true :: [.core] ∧
    { base with schedule := [.wake] }.schedule = .wake :: [] := by decide

/-- Between operations, and after the first sample's conversion. -/
theorem witness_PorAbandonsEverything :
    { base with schedule := [.por 0] }.schedule = .por 0 :: [] ∧
    { capturing true [5, 9] with activity := .running, schedule := [.por 3, .core] }.schedule =
      .por 3 :: [.core] := by decide

/-- P5's first readings, cut by POR after the conversion of X: three events of the abandoned sample, then those of
POWER_ON (70_reset_and_hazards.md R143), and the answer for Y is still queued. -/
theorem test_por_inside_a_conversion :
    after (fun t => (t.trace, t.adcAnswers, linkreg t))
      (step { capturing true [5, 9] with activity := .running, schedule := [.por 3, .core] }) =
        some ([.panelDrive .x, .dataFloat, .adcConvert .x 5, .panelIdle, .dataDrive false], [9], 0x000#10) := by
  decide

theorem witness_FetchWordRunsNext : decodeTableWord 8 0b000000 = some .lnkIdle ∧
    decodeTableWord 8 0b101111 = some (.lnkLast true) := by decide

theorem witness_DataFormatsPerformed : WellFormed (.wireFrame 677 316 false) = true := by decide

/-- A transmitting state that has the invariant: one bit of the frame of (1023, 0) is sent. -/
def invState : State :=
  { sending 0xFF8000#24 true 1 false true with
    sampleX := 1023, sampleY := 0, ready := true, trace := [.panelIdle, .dataDrive true, .dataDrive true] }

theorem witness_StepKeepsInv : Inv invState ∧ ∃ t, step invState = .next t := by
  refine ⟨⟨by decide, fun _ => by decide, ?_, by decide, fun _ => ⟨⟨[.panelIdle], by decide⟩, by decide⟩⟩, _, rfl⟩
  intro a h
  cases a <;> exact absurd h (by decide)

/-- A capture, a step that keeps the padding, an operation that keeps it. -/
theorem witness_PaddingStaysZeroOnceCaptured :
    ((capturing false [1023, 1023]).adcAnswers = 1023 :: 1023 :: [] ∧
      (capturing false [1023, 1023]).linkState = .capturing ∧ (capturing false [1023, 1023]).clk = true) ∧
    ((∃ t, step { sending 0xFFFFF0#24 false 0 true false with activity := .running } = .next t) ∧
      ∀ k rest, { sending 0xFFFFF0#24 false 0 true false with activity := .running }.schedule ≠ .por k :: rest) ∧
    ((∃ t, exec .txBit (sending 0xFFFFF0#24 false 0 true false) = .next t) ∧
      pad (sending 0xFFFFF0#24 false 0 true false).rawFrame = 0) ∧
    Inv invState ∧ invState.linkState = .transmitting :=
  ⟨by decide, ⟨⟨_, rfl⟩, fun _ _ h => nomatch h⟩, ⟨⟨_, rfl⟩, by decide⟩, witness_StepKeepsInv.1, by decide⟩

/-- A LINK_STEP with nothing scheduled, and one at a scheduled turn of the core. -/
theorem witness_NoForbiddenTransition :
    (∃ t, step { capturing false [0, 0] with activity := .running } = .next t ∧
      t.linkState = .capturing ∧ { capturing false [0, 0] with activity := .running }.schedule = []) ∧
    ∃ t rest, step { capturing false [0, 0] with activity := .running, schedule := [.core, .wake] } = .next t ∧
      t.linkState = .capturing ∧
      { capturing false [0, 0] with activity := .running, schedule := [.core, .wake] }.schedule = .core :: rest :=
  ⟨⟨_, rfl, by decide, rfl⟩, _, _, rfl, by decide, rfl⟩

/-- An operation for each of the three fields. -/
theorem witness_FieldOwnership :
    (∃ t, exec .goInactive base = .next t) ∧ (∃ t, exec .pack base = .next t) ∧ ∃ t, exec .debTouch base = .next t :=
  ⟨⟨_, rfl⟩, ⟨_, rfl⟩, ⟨_, rfl⟩⟩

theorem witness_TraceOnlyGrows : (∃ t, exec .txChk base = .next t) ∧ ∃ t, step base = .next t := ⟨⟨_, rfl⟩, ⟨_, rfl⟩⟩

/-- A step outside `Transmitting` that enters it. -/
theorem witness_UnobservedOutsideTransmitting :
    { capturing false [1, 0] with activity := .running }.linkState ≠ .transmitting ∧
    ∃ t, step { capturing false [1, 0] with activity := .running } = .next t ∧ t.linkState = .transmitting :=
  ⟨by decide, _, rfl, by decide⟩

theorem witness_TwentyOneEdgesEndTheExchange :
    (sending 0xFFC000#24 false 0 true true).linkState = .transmitting ∧
    (sending 0xFFC000#24 false 0 true true).activity = .lowPowerWait ∧
    (sending 0xFFC000#24 false 0 true true).wakePending = false ∧
    (sending 0xFFC000#24 false 0 true true).txCounter = 0 ∧
    (sending 0xFFC000#24 false 0 true true).lastClockLevel = true ∧
    (sending 0xFFC000#24 false 0 true true).clk = true ∧ 20 ≤ 20 := by decide

/-- A touch. -/
theorem witness_CompleteExchangeTrace_touch : ∃ s : State,
    s.linkState = .inactive ∧ s.activity = .lowPowerWait ∧ s.dataLevel = false ∧ s.wakePending = false ∧
    s.clk = false ∧ s.adcAnswers = 1023 :: 0 :: [] ∧ (pack 1023 0 ≠ 0 ∨ s.debounceFlag = true) ∧
    s.schedule = exchangeTurns :=
  ⟨{ base with adcAnswers := [1023, 0], schedule := exchangeTurns }, by decide⟩

/-- A release. -/
theorem witness_CompleteExchangeTrace_release : ∃ s : State,
    s.linkState = .inactive ∧ s.activity = .lowPowerWait ∧ s.dataLevel = false ∧ s.wakePending = false ∧
    s.clk = false ∧ s.adcAnswers = 0 :: 0 :: [] ∧ (pack 0 0 ≠ 0 ∨ s.debounceFlag = true) ∧
    s.schedule = exchangeTurns :=
  ⟨{ base with debounceFlag := true, adcAnswers := [0, 0], schedule := exchangeTurns }, by decide⟩

/-- One change, an odd number. -/
theorem witness_OnlyParityOfEdgesIsSeen_odd : ∃ s : State,
    s.linkState = .transmitting ∧ s.activity = .lowPowerWait ∧ s.clk = s.lastClockLevel ∧ s.txCounter.val < 20 ∧
    1 ≤ 1 ∧ s.schedule = toggles 1 s.clk ++ [.core, .core] ∧ 1 % 2 = 1 :=
  ⟨{ sending 0#24 false 19 true true with schedule := [.clk false, .core, .core] }, by decide⟩

/-- Two changes, an even number. -/
theorem witness_OnlyParityOfEdgesIsSeen_even : ∃ s : State,
    s.linkState = .transmitting ∧ s.activity = .lowPowerWait ∧ s.clk = s.lastClockLevel ∧ s.txCounter.val < 20 ∧
    1 ≤ 2 ∧ s.schedule = toggles 2 s.clk ++ [.core, .core] ∧ 2 % 2 = 0 :=
  ⟨{ sending 0#24 false 0 false false with schedule := [.clk true, .clk false, .core, .core] }, by decide⟩

theorem witness_AbortedReleaseIsNotRepeated : ∃ s : State,
    s.linkState = .transmitting ∧ s.activity = .lowPowerWait ∧ s.debounceFlag = false ∧ s.clk = true ∧
    s.lastClockLevel = true ∧ s.adcAnswers = 0 :: 0 :: [] ∧
    s.schedule = [.wake, .core, .core, .wake, .core, .core, .wake, .core, .core] :=
  ⟨{ sending 0#24 false 0 true true with
      debounceFlag := false, adcAnswers := [0, 0],
      schedule := [.wake, .core, .core, .wake, .core, .core, .wake, .core, .core] }, by decide⟩

end Sys2Proof.Tests
end

section
/-! What a turn of the machine does, said once: the fetched arm is LINK_STEP (43_link.md R96), so a step is the turn of
the agent the schedule names. -/

namespace Sys2Proof.Machine

/-- The arm of 43_link.md R96 by the link state and the bits the step consults. -/
def selectedArm : LinkState → (c e r t : Bool) → Instr
  | .inactive, c, _, _, _ => if c then .lnkArm else .lnkIdle
  | .capturing, c, _, r, _ => if c then (if r then .lnkReady else .lnkSupp) else .lnkAbort
  | .transmitting, c, e, _, t => if e then (if t then .lnkLast c else .lnkBit c) else .lnkStall c

/-- Every dispatch word of a link state decodes to the arm its consulted bits choose (30_encoding.md R54). -/
theorem decode_dispatchBits (l : LinkState) (c e r t : Bool) :
    decode .lnk (toBytes 1 (dispatchBits l c e r t).toNat) = .ok (selectedArm l c e r t) := by
  cases l <;> revert c e r t <;> decide

/-- In `Inactive` the arm is chosen by the clock level alone (30_encoding.md R52). -/
theorem fetch_inactive (s : State) (h : s.linkState = .inactive) :
    fetch s = .ok (if s.clk then .lnkArm else .lnkIdle) := by
  simp [fetch, dispatchWord, h, decode_dispatchBits, selectedArm, pinReadClk]

/-- In `Capturing` the arm is chosen by the clock level and, where it is high, by the capture's result. -/
theorem fetch_capturing (s : State) (h : s.linkState = .capturing) :
    fetch s = .ok (if s.clk then (if captureResult s then .lnkReady else .lnkSupp) else .lnkAbort) := by
  cases hc : s.clk <;> simp [fetch, dispatchWord, h, decode_dispatchBits, selectedArm, pinReadClk, hc]

/-- In `Transmitting` the arm is chosen by the edge bit and, on an edge, by the counter. -/
theorem fetch_transmitting (s : State) (h : s.linkState = .transmitting) :
    fetch s = .ok (if edgeBit s.clk s.lastClockLevel then
      (if lastBit s.txCounter then .lnkLast s.clk else .lnkBit s.clk) else .lnkStall s.clk) := by
  cases he : edgeBit s.clk s.lastClockLevel <;>
    simp [fetch, dispatchWord, h, decode_dispatchBits, selectedArm, pinReadClk, he]

/-- Two continuations of a capture that agree on its completed result give the same capture: a capture that never
returns performs neither (40_sampler.md R64). -/
theorem captureThen_congr (s : State) (k k' : State → State)
    (h : ∀ x y rest, s.adcAnswers = x :: y :: rest → k (captured x y rest s) = k' (captured x y rest s)) :
    captureThen s k = captureThen s k' := by
  rcases ha : s.adcAnswers with _ | ⟨x, _ | ⟨y, rest⟩⟩
  · rw [captureThen_silent s k ha, captureThen_silent s k' ha]
  · rw [captureThen_half s k ha, captureThen_half s k' ha]
  · rw [captureThen_answered s k ha, captureThen_answered s k' ha, h x y rest ha]

/-- The bit `r` of a completed capture is the result it leaves in `ready` (30_encoding.md R52). -/
theorem captureResult_answered (s : State) {x y : Reading} {rest : List Reading} (h : s.adcAnswers = x :: y :: rest) :
    captureResult s = (captured x y rest s).ready := by
  rw [captureResult, captureThen_answered (x := x) (y := y) (rest := rest) { s with ready := false } id h]
  rfl

/-- The arm a LINK_STEP selects does what the text of LINK_STEP does (43_link.md R96). -/
theorem fetch_performs_linkStep (s : State) : ∃ i, fetch s = .ok i ∧ exec i s = .next (linkStepOp s) := by
  cases hl : s.linkState with
  | inactive =>
    refine ⟨_, fetch_inactive s hl, ?_⟩
    rw [linkStepOp_inactive s hl]
    split <;> rfl
  | capturing =>
    refine ⟨_, fetch_capturing s hl, ?_⟩
    rw [linkStepOp_capturing s hl]
    by_cases hc : s.clk = true
    · simp only [hc, if_true]
      cases hr : captureResult s <;>
        exact congrArg Host.Outcome.next (captureThen_congr s _ _ fun x y rest ha => by
          simp [← captureResult_answered s ha, hr])
    · simp only [hc]
      rfl
  | transmitting =>
    refine ⟨_, fetch_transmitting s hl, ?_⟩
    rw [linkStepOp_transmitting s hl]
    cases edgeBit s.clk s.lastClockLevel with
    | false => rfl
    | true =>
      cases hb : lastBit s.txCounter with
      | true =>
        have hw := txStepOp_chk { s with lastClockLevel := s.clk } ((lastBit_eq_true _).1 hb)
        simp [exec, execLnkLast, hw]
      | false =>
        have hw := txStepOp_bit { s with lastClockLevel := s.clk } ((lastBit_eq_false _).1 hb)
        simp [exec, execLnkBit, hw]

/-- The core's turn performs its next operation in the loop of RUN (43_link.md R108). -/
theorem coreTurn_eq (s : State) : coreTurn s = .next (coreMove s) := by
  cases ha : s.activity with
  | blocked a => rw [coreMove_blocked s ha, coreTurn, ha]
  | lowPowerWait => rw [coreMove_wait s ha, coreTurn, ha]; rfl
  | running =>
    obtain ⟨i, hf, hx⟩ := fetch_performs_linkStep s
    rw [coreMove_running s ha]
    simp [coreTurn, ha, linkTurn, hf, hx]

/-- A step is the turn the schedule names, of the core where it names none (20_memory.md R32, log 8). -/
theorem step_eq (s : State) :
    step s = .next (turnOp (s.schedule.headD .core) { s with schedule := s.schedule.tail }) := by
  cases hs : s.schedule with
  | nil =>
    have : { s with schedule := [] } = s := by rw [← hs]
    simp [step, hs, coreTurn_eq, turnOp, this]
  | cons t rest => cases t <;> simp [step, hs, turnOp, coreTurn_eq, exec, execPowerOn]

/-- The state after a step, in the form the proofs about steps use. -/
theorem step_next {s t : State} (h : step s = .next t) :
    t = turnOp (s.schedule.headD .core) { s with schedule := s.schedule.tail } := by
  simpa [step_eq] using h.symm

end Sys2Proof.Machine
end

section
/-! The invariant of 10_state.md R28: reset has it and every turn keeps it. -/

namespace Sys2Proof.Machine

open Sys2Proof.Safety

/-! ### Bits of frames -/

/-- The padding of a packed frame is zero, bit by bit (30_encoding.md R46). -/
theorem pack_getLsbD_pad (x y : Reading) {k : Nat} (h : k < 4) : (pack x y).getLsbD k = false := by
  have hap := BitVec.getLsbD_append (x := x ++ y) (y := 0b0000#4) (i := k)
  rw [if_pos h] at hap
  exact hap.trans (by simp)

theorem pad_eq_zero_iff (f : Frame) : pad f = 0 ↔ ∀ k < 4, f.getLsbD k = false := by
  simp only [pad, BitVec.eq_of_getLsbD_eq_iff, BitVec.getLsbD_extractLsb']
  simp +contextual

theorem pad_pack (x y : Reading) : pad (pack x y) = 0 :=
  (pad_eq_zero_iff _).2 fun _ => pack_getLsbD_pad x y

/-- Shifting a bit out keeps the padding zero. -/
theorem pad_shiftFrame {f : Frame} (h : pad f = 0) : pad (shiftFrame f) = 0 := by
  rw [pad_eq_zero_iff] at h ⊢
  intro k hk
  simp [shiftFrame, h (k - 1) (by omega)]

/-- A packed frame shifted by `n` has `4 + n` zero low bits (10_state.md R28 item 4). -/
theorem pack_shift_getLsbD_low (x y : Reading) (n : Nat) {k : Nat} (h : k < 4 + n) :
    (pack x y <<< n).getLsbD k = false := by
  rw [BitVec.getLsbD_shiftLeft]
  by_cases hk : k < n
  · simp [hk]
  · simp [pack_getLsbD_pad x y (k := k - n) (by omega)]

/-- Two zero readings pack the zero frame, whose `nz` is 0 (41_capture.md R72). -/
theorem nonZero_pack_zero : nonZero (pack 0 0) = false := by decide

/-- The front bit of a frame shifted by `n` is its next payload bit (30_encoding.md R48). -/
theorem payloadBits_take_succ (f : Frame) {n : Nat} (h : n < 20) :
    (payloadBits f).take (n + 1) = (payloadBits f).take n ++ [frontBit (f <<< n)] := by
  have hn : (payloadBits f)[n]? = some (frontBit (f <<< n)) := by
    have hlow : ¬ 23 < n := by omega
    simp [payloadBits, Config.payloadBits, frontBit, h, hlow, BitVec.getLsbD_eq_getElem (show 23 - n < 24 by omega)]
  rw [List.take_add_one, hn]
  rfl

/-- One more bit in a parity is one checksum step (42_transmit.md R86). -/
theorem parity_concat (bits : List Bool) (b : Bool) : parity (bits ++ [b]) = checksumStep (parity bits) b := by
  simp [parity]

/-! ### The invariant of 10_state.md R28 -/

/-- In `Inactive`, with the quiet fields 0 and the pins at rest, the invariant says only what DebounceFlag is. -/
theorem inv_of_inactive {s : State} (hl : s.linkState = .inactive)
    (hq : s.txCounter = 0 ∧ s.checksum = false ∧ s.lastClockLevel = false ∧ s.dataLevel = false)
    (ha : ∀ a, s.activity ≠ .blocked a)
    (hr : s.dataDir = .out ∧ s.panelCfg = .idle ∧ s.adcEnabled = false ∧
      s.debounceFlag = nonZero (lastFrame s)) : Inv s where
  quiet _ := hq
  atRest _ := hr
  stuck a h := absurd h (ha a)
  frame h := by simp [hl] at h
  wire h := by simp [hl] at h

/-- No clause reads the clock line, the latch, the schedule or the answers. -/
theorem inv_environment {s : State} (h : Inv s) (clk wake : Bool) (turns : List Turn) (answers : List Reading) :
    Inv { s with clk := clk, wakePending := wake, schedule := turns, adcAnswers := answers } :=
  ⟨h.quiet, h.atRest, h.stuck, h.frame, h.wire⟩

/-- Outside a sample the power state does not matter, as long as it stays outside. -/
theorem inv_activity {s : State} (h : Inv s) (hs : ∀ a, s.activity ≠ .blocked a) {p : Activity}
    (hp : ∀ a, p ≠ .blocked a) : Inv { s with activity := p } :=
  ⟨h.quiet, fun _ => h.atRest hs, fun a ha => absurd ha (hp a), h.frame, h.wire⟩

theorem inv_powerOnOp (s : State) : Inv (powerOnOp s) := by
  rw [powerOnOp_eq]
  exact inv_of_inactive rfl ⟨rfl, rfl, rfl, rfl⟩ (by simp) ⟨rfl, rfl, rfl, nonZero_pack_zero.symm⟩

/-- GO_INACTIVE needs only the panel at rest and DebounceFlag right (43_link.md R106). -/
theorem inv_goInactiveOp {s : State} (ha : ∀ a, s.activity ≠ .blocked a)
    (hr : s.panelCfg = .idle ∧ s.adcEnabled = false ∧ s.debounceFlag = nonZero (lastFrame s)) :
    Inv (goInactiveOp s) :=
  inv_of_inactive rfl ⟨rfl, rfl, rfl, rfl⟩ ha ⟨rfl, hr⟩

theorem inv_waitOp {s : State} (h : Inv s) (hs : ∀ a, s.activity ≠ .blocked a) : Inv (waitOp s) := by
  cases hw : s.wakePending with
  | false => rw [waitOp_sleep s hw]; exact inv_activity h hs (by simp)
  | true =>
    rw [waitOp_wake s hw]
    exact inv_activity (inv_environment h s.clk false s.schedule s.adcAnswers) hs (by simp)

/-- A capture that is suppressed stays in `Capturing` with everything quiet (43_link.md R100). -/
theorem inv_captured {s : State} (h : Inv s) (hl : s.linkState = .capturing) (hs : ∀ a, s.activity ≠ .blocked a)
    (x y : Reading) (rest : List Reading) : Inv (captured x y rest s) where
  quiet _ := by
    obtain ⟨ht, -, hc, hd⟩ := h.quiet (by simp [hl])
    simp [captured, ht, hc, hd]
  atRest _ := ⟨rfl, rfl, rfl, rfl⟩
  stuck a ha := absurd ha (hs a)
  frame ht := by simp [captured, hl] at ht
  wire ht := by simp [captured, hl] at ht

/-- A reported capture enters `Transmitting` with no bit sent (43_link.md R101). -/
theorem inv_readyOp_captured {s : State} (hs : ∀ a, s.activity ≠ .blocked a) {x y : Reading} {rest : List Reading}
    (hr : (captured x y rest s).ready = true) : Inv (readyOp true (captured x y rest s)) := by
  have ht : (captured x y rest s).txCounter = 0 := if_pos hr
  have hsent : sentBits (readyOp true (captured x y rest s)) = [] := by simp [sentBits, ht]
  exact {
    quiet := fun h => absurd rfl h
    atRest := fun _ => ⟨rfl, rfl, rfl, rfl⟩
    stuck := fun a ha => absurd ha (hs a)
    frame := fun _ => by
      refine ⟨hr, ?_, ?_, ?_⟩
      · rw [readyOp_txCounter, ht]
        exact (BitVec.shiftLeft_zero _).symm
      · rw [hsent]; rfl
      · simp [ht]
    wire := fun _ => by
      rw [hsent]
      exact ⟨⟨_, rfl⟩, rfl⟩ }

/-- A capture in a LINK_STEP: suppressed, reported, or never completed (43_link.md R100, R101, 40_sampler.md R64). -/
theorem inv_captureStep {s : State} (h : Inv s) (hl : s.linkState = .capturing) (hs : ∀ a, s.activity ≠ .blocked a) :
    Inv (captureThen s (fun t => if t.ready then readyOp true t else t)) := by
  obtain ⟨x, y, rest, -, hk⟩ | ⟨a, x, out, hk⟩ := captureThen_cases s (fun t => if t.ready then readyOp true t else t)
  · rw [hk]
    split
    · next hr => exact inv_readyOp_captured hs hr
    · exact inv_captured h hl hs x y rest
  · rw [hk]
    obtain ⟨ht, -, hc, hd⟩ := h.quiet (by simp [hl])
    exact {
      quiet := fun _ => ⟨ht, rfl, hc, hd⟩
      atRest := fun hr => absurd rfl (hr a)
      stuck := fun b hb => by
        obtain rfl : a = b := by simpa using hb
        exact ⟨hl, rfl, rfl, rfl⟩
      frame := fun ht => by simp [hl] at ht
      wire := fun ht => by simp [hl] at ht }

/-- TX.BIT on an edge sends the next payload bit (43_link.md R103). -/
theorem inv_txBitOp {s : State} (h : Inv s) (hl : s.linkState = .transmitting) (hs : ∀ a, s.activity ≠ .blocked a)
    (he : s.clk = !s.lastClockLevel) (hn : s.txCounter.val < 20) :
    Inv (txBitOp { s with lastClockLevel := s.clk }) := by
  obtain ⟨hr, hf, hc, hlast⟩ := h.frame hl
  obtain ⟨⟨before, htr⟩, -⟩ := h.wire hl
  obtain ⟨-, hpanel, hadc, hflag⟩ := h.atRest hs
  set t := txBitOp { s with lastClockLevel := s.clk } with ht
  have hcount : t.txCounter.val = s.txCounter.val + 1 := by simp [ht, txBitOp, countStep, hn]
  have hsent : sentBits t = sentBits s ++ [frontBit s.rawFrame] := by
    rw [sentBits, hcount, payloadBits_take_succ _ hn, hf]
    rfl
  exact {
    quiet := fun hq => absurd hl hq
    atRest := fun _ => ⟨rfl, hpanel, hadc, hflag⟩
    stuck := fun a ha => absurd ha (hs a)
    frame := fun _ => by
      refine ⟨hr, ?_, ?_, ?_⟩
      · calc t.rawFrame = s.rawFrame <<< 1 := rfl
          _ = lastFrame s <<< (s.txCounter.val + 1) := by rw [hf, BitVec.shiftLeft_add]
          _ = lastFrame t <<< t.txCounter.val := by rw [hcount]; rfl
      · rw [hsent, parity_concat, ← hc]
        rfl
      · have hclk : t.lastClockLevel = s.clk := rfl
        rw [hclk, he, hlast, hcount, Bool.eq_iff_iff]
        simp
        omega
    wire := fun _ => by
      rw [hsent]
      refine ⟨⟨before, ?_⟩, ?_⟩
      · simp [ht, htr, drives]
      · simp [ht] }

/-- A LINK_STEP that the core begins keeps the invariant, row by row of 43_link.md R109. -/
theorem inv_linkStepOp {s : State} (h : Inv s) (hs : ∀ a, s.activity ≠ .blocked a) : Inv (linkStepOp s) := by
  obtain ⟨hdir, hpanel⟩ := h.atRest hs
  obtain ⟨-, -, hw⟩ | ⟨hl, -, hw⟩ | ⟨-, -, hw⟩ | ⟨hl, -, hw⟩ | ⟨-, -, hw⟩ | ⟨hl, he, hn, hw⟩ | ⟨-, -, -, hw⟩ :=
    linkStepOp_cases s <;> rw [hw]
  · exact h
  · exact ⟨fun _ => h.quiet (by simp [hl]), fun _ => h.atRest hs, fun a ha => absurd ha (hs a), nofun, nofun⟩
  · exact inv_goInactiveOp hs hpanel
  · exact inv_captureStep h hl hs
  · exact inv_goInactiveOp hs hpanel
  · exact inv_txBitOp h hl hs he hn
  · exact inv_goInactiveOp hs hpanel

theorem inv_endStep {s : State} (h : Inv s) : Inv (endStep s) := by
  by_cases hb : ∃ a, s.activity = .blocked a
  · obtain ⟨a, ha⟩ := hb
    rwa [endStep_blocked s ha]
  · have hs : ∀ a, s.activity ≠ .blocked a := fun a ha => hb ⟨a, ha⟩
    rw [endStep_returned s hs]
    exact inv_activity h hs (by simp)

theorem inv_coreMove {s : State} (h : Inv s) : Inv (coreMove s) := by
  cases ha : s.activity with
  | blocked a => rwa [coreMove_blocked s ha]
  | lowPowerWait =>
    rw [coreMove_wait s ha]
    exact inv_waitOp h (by simp [ha])
  | running =>
    rw [coreMove_running s ha]
    exact inv_endStep (inv_linkStepOp h (by simp [ha]))

theorem inv_turnOp {s : State} (h : Inv s) (t : Turn) : Inv (turnOp t s) := by
  cases t with
  | core => exact inv_coreMove h
  | clk level => exact inv_environment h level _ s.schedule s.adcAnswers
  | wake => exact inv_environment h s.clk true s.schedule s.adcAnswers
  | por emitted => exact inv_powerOnOp _

/-- Settles O49: the reset state is inactive and at rest. -/
theorem resetHasInv : Obligations.ResetHasInv :=
  inv_of_inactive rfl ⟨rfl, rfl, rfl, rfl⟩ nofun ⟨rfl, rfl, rfl, nonZero_pack_zero.symm⟩

/-- Settles O50: a step is a turn, and every turn keeps the invariant; POR establishes it from any state. -/
theorem stepKeepsInv : Obligations.StepKeepsInv := by
  intro s t h hstep
  rw [step_next hstep]
  exact inv_turnOp (inv_environment h s.clk s.wakePending s.schedule.tail s.adcAnswers) _

end Sys2Proof.Machine
end

section
/-! Who writes DebounceFlag, LinkState and RawFrame, and who reads RawFrame and LastClockLevel. -/

namespace Sys2Proof.Machine

/-! ### What the operations leave of DebounceFlag, LinkState and RawFrame (10_state.md R11, R14, R15) -/

/-- Two states with the same DebounceFlag, LinkState and RawFrame. -/
structure KeepsOwned (s t : State) : Prop where
  flag : t.debounceFlag = s.debounceFlag
  link : t.linkState = s.linkState
  frame : t.rawFrame = s.rawFrame

/-- A sample, answered or not, leaves the three fields alone. -/
theorem keepsOwned_sampleThen (a : Axis) (s : State) : KeepsOwned s (sampleThen a s id) := by
  cases h : s.adcAnswers with
  | nil => rw [sampleThen_silent a s id h]; exact ⟨rfl, rfl, rfl⟩
  | cons v rest => rw [sampleThen_answered a s id h]; cases a <;> exact ⟨rfl, rfl, rfl⟩

theorem keepsOwned_waitOp (s : State) : KeepsOwned s (waitOp s) := by
  cases h : s.wakePending with
  | false => rw [waitOp_sleep s h]; exact ⟨rfl, rfl, rfl⟩
  | true => rw [waitOp_wake s h]; exact ⟨rfl, rfl, rfl⟩

theorem keepsOwned_driveBits (bits : List Bool) (s : State) : KeepsOwned s (driveBits bits s) := by
  rw [driveBits_eq]
  exact ⟨rfl, rfl, rfl⟩

theorem keepsOwned_endStep (s : State) : KeepsOwned s (endStep s) := by
  unfold endStep
  split <;> exact ⟨rfl, rfl, rfl⟩

/-- A capture writes LinkState only through what follows it. -/
theorem captureThen_id_linkState (s : State) : (captureThen s id).linkState = s.linkState := by
  obtain ⟨x, y, rest, -, hk⟩ | ⟨a, x, out, hk⟩ := captureThen_cases s id
  · rw [hk]; rfl
  · rw [hk]

/-- TXSTEP is one of its two arms (42_transmit.md R88). -/
theorem txStepOp_cases (s : State) : txStepOp s = txBitOp s ∨ txStepOp s = txChkOp s := by
  unfold txStepOp
  split
  · exact .inr rfl
  · exact .inl rfl

theorem txStepOp_debounceFlag (s : State) : (txStepOp s).debounceFlag = s.debounceFlag := by
  obtain h | h := txStepOp_cases s <;> rw [h] <;> rfl

theorem txStepOp_linkState (s : State) : (txStepOp s).linkState = s.linkState := by
  obtain h | h := txStepOp_cases s <;> rw [h] <;> rfl

/-! ### How RawFrame can change (10_state.md R11) -/

/-- The frames that can stand in RawFrame after an operation other than POWER_ON: the frame itself, a packed one, or
the frame with its front bit shifted out. -/
def FrameMove (f g : Frame) : Prop := g = f ∨ (∃ x y, g = pack x y) ∨ g = shiftFrame f

theorem FrameMove.pad_zero {f g : Frame} (h : FrameMove f g) (hf : pad f = 0) : pad g = 0 := by
  obtain rfl | ⟨x, y, rfl⟩ | rfl := h
  · exact hf
  · exact pad_pack x y
  · exact pad_shiftFrame hf

/-- A capture packs a frame or, stuck in a sample, keeps the old one; what follows it may not write RawFrame. -/
theorem captureThen_frameMove (s : State) {k : State → State} (hk : ∀ u, (k u).rawFrame = u.rawFrame) :
    FrameMove s.rawFrame (captureThen s k).rawFrame := by
  obtain ⟨x, y, rest, -, h⟩ | ⟨a, x, out, h⟩ := captureThen_cases s k <;> rw [h]
  · exact .inr (.inl ⟨x, y, hk _⟩)
  · exact .inl rfl

theorem txStepOp_frameMove (s : State) : FrameMove s.rawFrame (txStepOp s).rawFrame := by
  obtain h | h := txStepOp_cases s <;> rw [h]
  · exact .inr (.inr rfl)
  · exact .inl rfl

/-- What follows the capture of a LINK_STEP: the ready level where the capture returned 1 (43_link.md R101). -/
theorem captureStep_rawFrame (u : State) : (if u.ready then readyOp true u else u).rawFrame = u.rawFrame := by
  split <;> rfl

theorem linkStepOp_frameMove (s : State) : FrameMove s.rawFrame (linkStepOp s).rawFrame := by
  obtain ⟨-, -, hw⟩ | ⟨-, -, hw⟩ | ⟨-, -, hw⟩ | ⟨-, -, hw⟩ | ⟨-, -, hw⟩ | ⟨-, -, -, hw⟩ | ⟨-, -, -, hw⟩ :=
    linkStepOp_cases s <;> rw [hw]
  · exact .inl rfl
  · exact .inl rfl
  · exact .inl rfl
  · exact captureThen_frameMove s captureStep_rawFrame
  · exact .inl rfl
  · exact .inr (.inr rfl)
  · exact .inl rfl

theorem coreMove_frameMove (s : State) : FrameMove s.rawFrame (coreMove s).rawFrame := by
  cases ha : s.activity with
  | blocked a => exact .inl (by rw [coreMove_blocked s ha])
  | lowPowerWait => exact .inl (by rw [coreMove_wait s ha, (keepsOwned_waitOp s).frame])
  | running => rw [coreMove_running s ha, (keepsOwned_endStep _).frame]; exact linkStepOp_frameMove s

/-- Every operation but POWER_ON and RUN changes RawFrame only by packing or by shifting. -/
theorem exec_frameMove {i : Instr} {s t : State} (h : exec i s = .next t) (hp : i ≠ .powerOn) (hr : i ≠ .run) :
    FrameMove s.rawFrame t.rawFrame := by
  cases i <;> obtain rfl := Host.Outcome.next.inj h.symm
  case powerOn => exact absurd rfl hp
  case run => exact absurd rfl hr
  case lnkSupp | capture => exact captureThen_frameMove s fun _ => rfl
  case lnkReady => exact captureThen_frameMove s fun _ => rfl
  case lnkBit c => exact txStepOp_frameMove { s with lastClockLevel := c }
  case lnkLast c => exact txStepOp_frameMove { s with lastClockLevel := c }
  case txstep => exact txStepOp_frameMove s
  case linkStep => exact linkStepOp_frameMove s
  case txBit => exact .inr (.inr rfl)
  case pack => exact .inr (.inl ⟨_, _, rfl⟩)
  case rawFrame x y => exact .inr (.inl ⟨x, y, rfl⟩)
  case sampleX => exact .inl (keepsOwned_sampleThen .x s).frame
  case sampleY => exact .inl (keepsOwned_sampleThen .y s).frame
  case wait => exact .inl (keepsOwned_waitOp s).frame
  case wireFrame x y k => exact .inl (keepsOwned_driveBits _ s).frame
  all_goals exact .inl rfl

/-- Every turn but POR changes RawFrame only by packing or by shifting. -/
theorem turnOp_frameMove {t : Turn} (h : ∀ k, t ≠ .por k) (s : State) :
    FrameMove s.rawFrame (turnOp t s).rawFrame := by
  cases t with
  | core => exact coreMove_frameMove s
  | clk level => exact .inl rfl
  | wake => exact .inl rfl
  | por k => exact absurd rfl (h k)

/-- Settles O51: a completed capture packs, and packing and shifting keep the padding zero. -/
theorem paddingStaysZeroOnceCaptured : Obligations.PaddingStaysZeroOnceCaptured := by
  refine ⟨fun s x y rest ha => ⟨⟨_, rfl, ?_⟩, fun hl hc => ⟨_, rfl, ?_⟩⟩, fun s t hstep hpor hpad => ?_,
    fun i s t h hp hr => (exec_frameMove h hp hr).pad_zero, fun s hinv hl k hk => ?_⟩
  · rw [captureThen_answered s id ha]
    exact pad_pack x y
  · rw [linkStepOp_capturing s hl, if_pos hc, captureThen_answered s _ ha]
    split <;> exact pad_pack x y
  · rw [step_next hstep]
    refine (turnOp_frameMove (fun k hk => ?_) _).pad_zero hpad
    cases hs : s.schedule with
    | nil => simp [hs] at hk
    | cons u rest => exact hpor k rest (by simpa [hs] using hk)
  · obtain ⟨-, hframe, -⟩ := hinv.frame hl
    rw [hframe]
    exact pack_shift_getLsbD_low _ _ _ hk

/-- Settles O53, operation by operation: what each leaves alone of the three fields, and the clauses that name it. -/
theorem fieldOwnership : Obligations.FieldOwnership := by
  intro i s t h hp hr
  cases i <;> obtain rfl := Host.Outcome.next.inj h.symm
  case powerOn => exact absurd rfl hp
  case run => exact absurd rfl hr
  case lnkIdle | txChk | debSuppress => exact ⟨fun _ => rfl, fun _ _ _ => rfl, fun _ _ _ _ => rfl⟩
  case lnkArm | lnkAbort | goInactive => exact ⟨fun _ => rfl, fun hi => absurd hi (by simp), fun _ _ _ _ => rfl⟩
  case lnkStall c => exact ⟨fun _ => rfl, fun _ hc => absurd rfl (hc c), fun _ _ _ _ => rfl⟩
  case lnkSupp | capture =>
    exact ⟨fun hi => absurd hi (by simp), fun _ _ _ => captureThen_id_linkState s, fun hi => absurd hi (by simp)⟩
  case lnkReady | linkStep =>
    exact ⟨fun hi => absurd hi (by simp), fun hi => absurd hi (by simp), fun hi => absurd hi (by simp)⟩
  case lnkBit c =>
    exact ⟨fun _ => txStepOp_debounceFlag { s with lastClockLevel := c },
      fun _ _ _ => txStepOp_linkState { s with lastClockLevel := c }, fun _ hc => absurd rfl (hc c)⟩
  case lnkLast c =>
    exact ⟨fun _ => txStepOp_debounceFlag { s with lastClockLevel := c }, fun _ _ hc => absurd rfl (hc c),
      fun _ _ hc => absurd rfl (hc c)⟩
  case txBit => exact ⟨fun _ => rfl, fun _ _ _ => rfl, fun hi => absurd hi (by simp)⟩
  case txstep =>
    exact ⟨fun _ => txStepOp_debounceFlag s, fun _ _ _ => txStepOp_linkState s, fun hi => absurd hi (by simp)⟩
  case debTouch | debRelease => exact ⟨fun hi => absurd hi (by simp), fun _ _ _ => rfl, fun _ _ _ _ => rfl⟩
  case pack => exact ⟨fun _ => rfl, fun _ _ _ => rfl, fun hi => absurd hi (by simp)⟩
  case rawFrame x y => exact ⟨fun _ => rfl, fun _ _ _ => rfl, fun _ _ _ hc => absurd rfl (hc x y)⟩
  case sampleX =>
    have h := keepsOwned_sampleThen .x s
    exact ⟨fun _ => h.flag, fun _ _ _ => h.link, fun _ _ _ _ => h.frame⟩
  case sampleY =>
    have h := keepsOwned_sampleThen .y s
    exact ⟨fun _ => h.flag, fun _ _ _ => h.link, fun _ _ _ _ => h.frame⟩
  case wait =>
    have h := keepsOwned_waitOp s
    exact ⟨fun _ => h.flag, fun _ _ _ => h.link, fun _ _ _ _ => h.frame⟩
  case wireFrame x y k =>
    have h := keepsOwned_driveBits (payloadBits (pack x y) ++ [k]) s
    exact ⟨fun _ => h.flag, fun _ _ _ => h.link, fun _ _ _ _ => h.frame⟩

/-! ### What cannot be observed outside `Transmitting` (10_state.md R28 item 7, R16) -/

/-- The state with RawFrame and LastClockLevel replaced. -/
def blur (f : Frame) (b : Bool) (s : State) : State := { s with rawFrame := f, lastClockLevel := b }

/-- An operation does the same whatever RawFrame and LastClockLevel are: the results differ at most in those of the two
that differed before, and not at all if it enters `Transmitting`. -/
def Blind (op : State → State) (s : State) : Prop :=
  ∀ f b, ∃ g c, op (blur f b s) = blur g c (op s) ∧
    (f = s.rawFrame → g = (op s).rawFrame) ∧ (b = s.lastClockLevel → c = (op s).lastClockLevel) ∧
    ((op s).linkState = .transmitting → g = (op s).rawFrame ∧ c = (op s).lastClockLevel)

/-- An operation that does not use the two fields and stays outside `Transmitting`. -/
theorem blind_of_commutes {op : State → State} {s : State} (h : ∀ f b, op (blur f b s) = blur f b (op s))
    (hl : (op s).linkState ≠ .transmitting) : Blind op s := by
  have hself : op s = blur s.rawFrame s.lastClockLevel (op s) := h s.rawFrame s.lastClockLevel
  have hf : (op s).rawFrame = s.rawFrame := (congrArg State.rawFrame hself :)
  have hb : (op s).lastClockLevel = s.lastClockLevel := (congrArg State.lastClockLevel hself :)
  exact fun f b => ⟨f, b, h f b, fun e => e.trans hf.symm, fun e => e.trans hb.symm, fun ht => absurd ht hl⟩

/-- An operation whose result does not depend on the two fields. -/
theorem blind_of_overwrites {op : State → State} {s : State} (h : ∀ f b, op (blur f b s) = op s) : Blind op s :=
  fun f b => ⟨_, _, h f b, fun _ => rfl, fun _ => rfl, fun _ => ⟨rfl, rfl⟩⟩

/-- The operation need only be known at the two states compared. -/
theorem Blind.congr {op op' : State → State} {s : State} (h : Blind op s) (hs : op' s = op s)
    (hb : ∀ f b, op' (blur f b s) = op (blur f b s)) : Blind op' s := by
  intro f b
  rw [hs, hb]
  exact h f b

/-- GO_INACTIVE keeps RawFrame and clears LastClockLevel (43_link.md R106). -/
theorem blind_goInactiveOp (s : State) : Blind goInactiveOp s :=
  fun f _ => ⟨f, false, rfl, id, fun _ => rfl, nofun⟩

/-- A capture in a LINK_STEP packs a new frame; where it is reported the step writes LastClockLevel too, and where it
never completes nothing reads either field. -/
theorem blind_captureStep {s : State} (hl : s.linkState = .capturing) :
    Blind (fun u => captureThen u (fun t => if t.ready then readyOp true t else t)) s := by
  rcases ha : s.adcAnswers with _ | ⟨x, _ | ⟨y, rest⟩⟩
  · refine blind_of_commutes (fun f b => ?_) ?_
    · rw [captureThen_silent s _ ha, captureThen_silent (blur f b s) _ ha]
      rfl
    · simp [captureThen_silent s _ ha, hl]
  · refine blind_of_commutes (fun f b => ?_) ?_
    · rw [captureThen_half s _ ha, captureThen_half (blur f b s) _ ha]
      rfl
    · simp [captureThen_half s _ ha, hl]
  · cases hr : (captured x y rest s).ready with
    | true =>
      refine blind_of_overwrites fun f b => ?_
      have hr' : (captured x y rest (blur f b s)).ready = true := hr
      rw [captureThen_answered s _ ha, captureThen_answered (blur f b s) _ ha, if_pos hr, if_pos hr']
      rfl
    | false =>
      intro f b
      have hr' : (captured x y rest (blur f b s)).ready = false := hr
      simp only [captureThen_answered s _ ha, captureThen_answered (blur f b s) _ ha, hr, hr']
      exact ⟨pack x y, b, rfl, fun _ => rfl, id, fun ht => by simp [captured, hl] at ht⟩

theorem blind_linkStepOp {s : State} (h : s.linkState ≠ .transmitting) : Blind linkStepOp s := by
  cases hl : s.linkState with
  | transmitting => exact absurd hl h
  | inactive =>
    have hw (f : Frame) (b : Bool) := linkStepOp_inactive (blur f b s) hl
    cases hc : s.clk <;>
      exact blind_of_commutes (fun f b => by rw [hw f b, linkStepOp_inactive s hl]; simp [blur, hc])
        (by simp [linkStepOp_inactive s hl, hc, hl])
  | capturing =>
    have hw (f : Frame) (b : Bool) := linkStepOp_capturing (blur f b s) hl
    cases hc : s.clk with
    | false =>
      exact (blind_goInactiveOp s).congr (by simp [linkStepOp_capturing s hl, hc])
        fun f b => by rw [hw f b]; simp [blur, hc]
    | true =>
      exact (blind_captureStep hl).congr (by simp [linkStepOp_capturing s hl, hc])
        fun f b => by rw [hw f b]; simp [blur, hc]

/-- The end of a step writes the power state only. -/
theorem endStep_blur (f : Frame) (b : Bool) (s : State) : endStep (blur f b s) = blur f b (endStep s) := by
  cases ha : s.activity <;> simp [endStep, blur, ha]

theorem endStep_lastClockLevel (s : State) : (endStep s).lastClockLevel = s.lastClockLevel := by
  unfold endStep
  split <;> rfl

theorem blind_coreMove {s : State} (h : s.linkState ≠ .transmitting) : Blind coreMove s := by
  cases ha : s.activity with
  | blocked a =>
    refine blind_of_commutes (fun f b => ?_) (by rwa [coreMove_blocked s ha])
    rw [coreMove_blocked s ha, coreMove_blocked (blur f b s) ha]
  | lowPowerWait =>
    refine blind_of_commutes (fun f b => ?_) (by rwa [coreMove_wait s ha, (keepsOwned_waitOp s).link])
    rw [coreMove_wait s ha, coreMove_wait (blur f b s) ha]
    cases hw : s.wakePending <;> simp [waitOp, blur, hw]
  | running =>
    intro f b
    obtain ⟨g, c, hstep, hkeep⟩ := blind_linkStepOp h f b
    refine ⟨g, c, ?_, ?_⟩
    · rw [coreMove_running s ha, coreMove_running (blur f b s) ha, hstep, endStep_blur]
    · simpa only [coreMove_running s ha, (keepsOwned_endStep _).frame, (keepsOwned_endStep _).link,
      endStep_lastClockLevel] using hkeep

/-- What POR leaves of an operation under way does not depend on the two fields: the events are the same. -/
theorem abandon_blur {s : State} (h : s.linkState ≠ .transmitting) (k : Nat) (f : Frame) (b : Bool) :
    abandon k (blur f b s) = blur f b (abandon k s) := by
  obtain ⟨g, c, hmove, -⟩ := blind_coreMove h f b
  simp only [abandon, hmove]
  rfl

theorem blind_turnOp (t : Turn) {s : State} (h : s.linkState ≠ .transmitting) : Blind (turnOp t) s := by
  cases t with
  | core => exact blind_coreMove h
  | clk level => exact blind_of_commutes (fun _ _ => rfl) h
  | wake => exact blind_of_commutes (fun _ _ => rfl) h
  | por k =>
    refine blind_of_overwrites fun f b => ?_
    show powerOnOp (abandon k (blur f b s)) = powerOnOp (abandon k s)
    rw [abandon_blur h]
    rfl

/-- A step from outside `Transmitting` in a state with other values of the two fields. -/
theorem step_blur {s t : State} (h : s.linkState ≠ .transmitting) (hstep : step s = .next t) (f : Frame) (b : Bool) :
    ∃ g c, step (blur f b s) = .next (blur g c t) ∧ (f = s.rawFrame → g = t.rawFrame) ∧
      (b = s.lastClockLevel → c = t.lastClockLevel) ∧
      (t.linkState = .transmitting → g = t.rawFrame ∧ c = t.lastClockLevel) := by
  obtain ⟨g, c, hturn, hkeep⟩ :=
    blind_turnOp (s.schedule.headD .core) (s := { s with schedule := s.schedule.tail }) h f b
  rw [← step_next hstep] at hturn hkeep
  exact ⟨g, c, (step_eq _).trans (congrArg _ hturn), hkeep⟩

/-- Settles O55: blur RawFrame only; a step blind to the pair leaves LastClockLevel as it is. -/
theorem rawFrameUnobservedOutsideTransmitting : Obligations.RawFrameUnobservedOutsideTransmitting := by
  intro s t f hl hstep
  obtain ⟨g, c, hblur, -, hc, htx⟩ := step_blur hl hstep f s.lastClockLevel
  obtain rfl := hc rfl
  exact ⟨g, hblur, fun ht => (htx ht).1⟩

/-- Settles O56: blur LastClockLevel only; a step blind to the pair leaves RawFrame as it is. -/
theorem lastClockLevelUnobservedOutsideTransmitting : Obligations.LastClockLevelUnobservedOutsideTransmitting := by
  intro s t b hl hstep
  obtain ⟨g, c, hblur, hg, -, htx⟩ := step_blur hl hstep s.rawFrame b
  obtain rfl := hg rfl
  exact ⟨c, hblur, fun ht => (htx ht).2⟩

end Sys2Proof.Machine
end

section
/-! The fields a state shows: LINKREG, the panel pins, reset, the latch. -/

namespace Sys2Proof.Machine

/-! ### LINKREG, the panel pins, reset and the outside turns -/

/-- The five fields of a word laid out as LINKREG is, in terms of the field widths (10_state.md R20). -/
theorem fields_of_linkreg_layout (n : BitVec 5) (k f l : Bool) (c : BitVec 2) :
    ((((n ++ BitVec.ofBool k) ++ BitVec.ofBool f) ++ BitVec.ofBool l) ++ c).extractLsb' 0 2 = c ∧
    ((((n ++ BitVec.ofBool k) ++ BitVec.ofBool f) ++ BitVec.ofBool l) ++ c).getLsbD 2 = l ∧
    ((((n ++ BitVec.ofBool k) ++ BitVec.ofBool f) ++ BitVec.ofBool l) ++ c).getLsbD 3 = f ∧
    ((((n ++ BitVec.ofBool k) ++ BitVec.ofBool f) ++ BitVec.ofBool l) ++ c).getLsbD 4 = k ∧
    ((((n ++ BitVec.ofBool k) ++ BitVec.ofBool f) ++ BitVec.ofBool l) ++ c).extractLsb' 5 5 = n := by
  refine ⟨BitVec.extractLsb'_append_eq_right, ?_, ?_, ?_, ?_⟩
  · simp only [BitVec.getLsbD_append]
    simp
  · simp only [BitVec.getLsbD_append]
    simp
  · simp only [BitVec.getLsbD_append]
    simp
  · apply BitVec.eq_of_getLsbD_eq
    intro i hi
    have hlow : ¬ 5 + i < 2 := by omega
    have hrest : 5 + i - 2 = i + 3 := by omega
    simp only [BitVec.getLsbD_extractLsb', BitVec.getLsbD_append, hi, hlow, hrest]
    simp

/-- Settles O5: the layout's fields, and every counter value fits five bits. -/
theorem linkregFields : Obligations.LinkregFields := by
  intro s
  obtain ⟨hlink, hlast, hflag, hchk, hcount⟩ := fields_of_linkreg_layout (BitVec.ofNat 5 s.txCounter.val)
    s.checksum s.debounceFlag s.lastClockLevel (linkCode s.linkState)
  have hfits : (BitVec.ofNat 5 s.txCounter.val).toNat = s.txCounter.val := by
    have := s.txCounter.isLt
    rw [BitVec.toNat_ofNat]
    omega
  exact ⟨hlink, hlast, hflag, hchk, (congrArg BitVec.toNat hcount).trans hfits⟩

/-- Settles O7: the two panel pairs are driven by the two configurations. -/
theorem panelEdgesDriven : Obligations.PanelEdgesDriven := by
  refine fun s => ⟨fun h p hp => ?_, fun h => ?_, fun h => ?_⟩
  · cases p <;> simp [pinDrive, h] at hp ⊢
  · simp [pinDrive, h]
  · simp [pinDrive, h]

/-- Settles O40: the fields of the literal, and LINKREG computed from them. -/
theorem resetValues : Obligations.ResetValues :=
  ⟨rfl, rfl, rfl, rfl, rfl, rfl, rfl, rfl, rfl, rfl, by decide⟩

/-- Settles O44: the turns of the host and of the other wake sources write the clock line and the latch. -/
theorem outsideTurnsSetTheWakeLatch : Obligations.OutsideTurnsSetTheWakeLatch := by
  refine fun s level rest => ⟨fun h => ?_, fun h => ?_⟩ <;> rw [step_eq, h]
  · have hne : decide (level ≠ s.clk) = (level != s.clk) := by cases level <;> cases s.clk <;> rfl
    rw [hne]
    rfl
  · rfl

end Sys2Proof.Machine
end

section
/-! What the outside sees: the output trace, which every operation and every turn only extends, and the host's view of
the data line. -/

namespace Sys2Proof.Machine

/-! ### The output trace (20_memory.md R38 c) -/

/-- A sample emits its events first, whether it is answered or not; what follows it has to keep them. -/
theorem trace_isPrefix_sampleThen (a : Axis) (s : State) {k : State → State}
    (hk : ∀ u : State, u.trace <+: (k u).trace) : s.trace <+: (sampleThen a s k).trace := by
  cases h : s.adcAnswers with
  | nil =>
    rw [sampleThen_silent a s k h]
    exact List.prefix_append _ _
  | cons v rest =>
    rw [sampleThen_answered a s k h]
    refine List.IsPrefix.trans ?_ (hk _)
    cases a <;> exact List.prefix_append _ _

theorem debounceOp_trace (s : State) : (debounceOp s).trace = s.trace := by rw [debounceOp_eq]

/-- A capture is two samples, and PACK and the debounce policy emit nothing (41_capture.md R76). -/
theorem trace_isPrefix_captureThen (s : State) {k : State → State} (hk : ∀ u : State, u.trace <+: (k u).trace) :
    s.trace <+: (captureThen s k).trace := by
  refine trace_isPrefix_sampleThen .x { s with checksum := false } fun u => trace_isPrefix_sampleThen .y u fun v => ?_
  have hv : (debounceOp (packOp v)).trace = v.trace := debounceOp_trace (packOp v)
  rw [← hv]
  exact hk _

theorem trace_isPrefix_goInactiveOp (s : State) : s.trace <+: (goInactiveOp s).trace := List.prefix_append _ _

theorem trace_isPrefix_readyOp (c : Bool) (s : State) : s.trace <+: (readyOp c s).trace := List.prefix_append _ _

theorem trace_isPrefix_powerOnOp (s : State) : s.trace <+: (powerOnOp s).trace := by
  rw [powerOnOp_eq]
  exact List.prefix_append _ _

theorem trace_isPrefix_driveBits (bits : List Bool) (s : State) : s.trace <+: (driveBits bits s).trace := by
  rw [driveBits_eq]
  exact List.prefix_append _ _

theorem trace_isPrefix_txBitOp (s : State) : s.trace <+: (txBitOp s).trace := List.prefix_append _ _

theorem trace_isPrefix_txChkOp (s : State) : s.trace <+: (txChkOp s).trace := List.prefix_append _ _

/-- Both arms of TXSTEP drive one bit (42_transmit.md R88). -/
theorem trace_isPrefix_txStepOp (s : State) : s.trace <+: (txStepOp s).trace := by
  obtain h | h := txStepOp_cases s <;> rw [h]
  · exact trace_isPrefix_txBitOp s
  · exact trace_isPrefix_txChkOp s

theorem waitOp_trace (s : State) : (waitOp s).trace = s.trace := by
  cases h : s.wakePending with
  | false => rw [waitOp_sleep s h]
  | true => rw [waitOp_wake s h]

theorem endStep_trace (s : State) : (endStep s).trace = s.trace := by
  unfold endStep
  split <;> rfl

/-- A LINK_STEP only extends the trace, row by row of 43_link.md R109. -/
theorem trace_isPrefix_linkStepOp (s : State) : s.trace <+: (linkStepOp s).trace := by
  obtain ⟨-, -, hw⟩ | ⟨-, -, hw⟩ | ⟨-, -, hw⟩ | ⟨-, -, hw⟩ | ⟨-, -, hw⟩ | ⟨-, -, -, hw⟩ | ⟨-, -, -, hw⟩ :=
    linkStepOp_cases s
  · rw [hw]
  · rw [hw]
  · rw [hw]
    exact trace_isPrefix_goInactiveOp s
  · rw [hw]
    refine trace_isPrefix_captureThen s fun u => ?_
    split
    · exact trace_isPrefix_readyOp true u
    · exact List.prefix_rfl
  · rw [hw]
    exact trace_isPrefix_goInactiveOp s
  · rw [hw]
    exact trace_isPrefix_txBitOp { s with lastClockLevel := s.clk }
  · rw [hw]
    exact (trace_isPrefix_txChkOp { s with lastClockLevel := s.clk }).trans (trace_isPrefix_goInactiveOp _)

theorem trace_isPrefix_coreMove (s : State) : s.trace <+: (coreMove s).trace := by
  cases ha : s.activity with
  | blocked a => rw [coreMove_blocked s ha]
  | lowPowerWait => rw [coreMove_wait s ha, waitOp_trace]
  | running =>
    rw [coreMove_running s ha, endStep_trace]
    exact trace_isPrefix_linkStepOp s

/-- Every turn only extends the trace; POR keeps what the abandoned operation had emitted (70_reset_and_hazards.md
R143). -/
theorem trace_isPrefix_turnOp (t : Turn) (s : State) : s.trace <+: (turnOp t s).trace := by
  cases t with
  | core => exact trace_isPrefix_coreMove s
  | clk level => exact List.prefix_rfl
  | wake => exact List.prefix_rfl
  | por k => exact (List.prefix_append s.trace _).trans (trace_isPrefix_powerOnOp (abandon k s))

/-- The loop of RUN is a sequence of turns and core moves (43_link.md R108). -/
theorem trace_isPrefix_loopOp (ts : List Turn) (s : State) : s.trace <+: (loopOp ts s).trace := by
  induction ts generalizing s with
  | nil =>
    exact ((trace_isPrefix_coreMove { s with schedule := [] }).trans (trace_isPrefix_coreMove _)).trans
      (trace_isPrefix_coreMove _)
  | cons t ts ih => exact (trace_isPrefix_turnOp t { s with schedule := ts }).trans (ih _)

/-- Every operation only extends the trace. -/
theorem trace_isPrefix_of_exec {i : Instr} {s t : State} (h : exec i s = .next t) : s.trace <+: t.trace := by
  cases i <;> obtain rfl := Host.Outcome.next.inj h.symm
  case lnkIdle | lnkArm | debSuppress | debRelease | debTouch | pack => exact List.prefix_rfl
  case rawFrame x y => exact List.prefix_rfl
  case lnkAbort | goInactive => exact trace_isPrefix_goInactiveOp s
  case lnkStall c => exact trace_isPrefix_goInactiveOp s
  case txBit => exact trace_isPrefix_txBitOp s
  case txChk => exact trace_isPrefix_txChkOp s
  case txstep => exact trace_isPrefix_txStepOp s
  case lnkBit c => exact trace_isPrefix_txStepOp { s with lastClockLevel := c }
  case lnkLast c =>
    exact (trace_isPrefix_txStepOp { s with lastClockLevel := c }).trans (trace_isPrefix_goInactiveOp _)
  case sampleX => exact trace_isPrefix_sampleThen .x s fun _ => List.prefix_rfl
  case sampleY => exact trace_isPrefix_sampleThen .y s fun _ => List.prefix_rfl
  case capture | lnkSupp => exact trace_isPrefix_captureThen s fun _ => List.prefix_rfl
  case lnkReady => exact trace_isPrefix_captureThen s (trace_isPrefix_readyOp true)
  case linkStep => exact trace_isPrefix_linkStepOp s
  case wait => rw [waitOp_trace]
  case powerOn => exact trace_isPrefix_powerOnOp s
  case run => exact (trace_isPrefix_powerOnOp s).trans (trace_isPrefix_loopOp s.schedule _)
  case wireFrame x y k => exact trace_isPrefix_driveBits _ s

/-- Settles O54: every operation extends the trace, and a step is a turn, which extends it too. -/
theorem traceOnlyGrows : Obligations.TraceOnlyGrows := by
  refine ⟨fun i s t h => trace_isPrefix_of_exec h, fun s t h => ?_⟩
  rw [step_next h]
  exact trace_isPrefix_turnOp _ { s with schedule := s.schedule.tail }

/-! ### The host's view of the data line (20_memory.md R44) -/

theorem hostView_of_float {s : State} (h : s.dataDir = .float) : hostView s = none := if_neg (by simp [h])

theorem hostView_of_out {s : State} (h : s.dataDir = .out) : hostView s = some s.dataLevel := if_pos h

/-- Settles O6: the host's view by the two directions of the data line. -/
theorem hostViewOfData : Obligations.HostViewOfData := fun _ => ⟨hostView_of_float, hostView_of_out⟩

end Sys2Proof.Machine
end

section
/-! Keys as bytes and back (30_encoding.md R45, R48, R54): what a number's bytes are, what each format reads from a
key, and the two round trips of the encoder and the decoder. -/

namespace Sys2Proof

/-! ### Bytes of a number (20_memory.md R34) -/

theorem toBytes_length (n w : Nat) : (toBytes n w).length = n := by
  induction n with
  | zero => rfl
  | succ n ih => simp [toBytes, ih]

theorem ofBytes_concat (bytes : List Byte) (b : Byte) : ofBytes (bytes ++ [b]) = ofBytes bytes * 256 + b.toNat := by
  simp [ofBytes]

/-- The first byte is the most significant. -/
theorem ofBytes_cons (b : Byte) (bytes : List Byte) :
    ofBytes (b :: bytes) = b.toNat * 256 ^ bytes.length + ofBytes bytes := by
  induction bytes using List.reverseRecOn with
  | nil => simp [ofBytes]
  | append_singleton bytes c ih =>
    rw [← List.cons_append, ofBytes_concat, ofBytes_concat, ih, List.length_append, List.length_singleton, pow_succ]
    ring

/-- `n` bytes keep a number modulo `256 ^ n`. -/
theorem ofBytes_toBytes (n w : Nat) : ofBytes (toBytes n w) = w % 256 ^ n := by
  induction n with
  | zero => simp [toBytes, ofBytes, Nat.mod_one]
  | succ n ih =>
    rw [toBytes, ofBytes_cons, toBytes_length, ih, BitVec.toNat_ofNat, Nat.mod_pow_succ (b := 256) (k := n)]
    ring

/-- What stands above the `n` bytes taken is not seen. -/
theorem toBytes_add_mul (n w a : Nat) : toBytes n (w + a * 256 ^ n) = toBytes n w := by
  induction n generalizing a with
  | zero => rfl
  | succ n ih =>
    have hsplit : a * 256 ^ (n + 1) = a * 256 * 256 ^ n := by rw [pow_succ]; ring
    have hbyte : BitVec.ofNat 8 (w / 256 ^ n + a * 256) = BitVec.ofNat 8 (w / 256 ^ n) := by
      apply BitVec.eq_of_toNat_eq
      simp only [BitVec.toNat_ofNat]
      omega
    rw [toBytes, toBytes, hsplit, ih, Nat.add_mul_div_right _ _ (by positivity), hbyte]

theorem ofBytes_lt (bytes : List Byte) : ofBytes bytes < 256 ^ bytes.length := by
  induction bytes using List.reverseRecOn with
  | nil => simp [ofBytes]
  | append_singleton bytes b ih =>
    have := b.isLt
    rw [ofBytes_concat, List.length_append, List.length_singleton, pow_succ]
    omega

/-- Bytes are the bytes of the number they hold. -/
theorem toBytes_ofBytes (bytes : List Byte) : toBytes bytes.length (ofBytes bytes) = bytes := by
  induction bytes with
  | nil => rfl
  | cons b bytes ih =>
    have hfirst : (b.toNat * 256 ^ bytes.length + ofBytes bytes) / 256 ^ bytes.length = b.toNat := by
      rw [Nat.add_comm, Nat.add_mul_div_right _ _ (by positivity), Nat.div_eq_of_lt (ofBytes_lt bytes), Nat.zero_add]
    rw [List.length_cons, toBytes, ofBytes_cons, hfirst, Nat.add_comm, toBytes_add_mul, ih, BitVec.ofNat_toNat,
      BitVec.setWidth_eq]

/-! ### What a format reads -/

/-- The decoder accepts bytes of the format's number, whose number fits the key's bits and selects a row. -/
theorem decode_eq_ok_iff {sel : Selector} {bytes : List Byte} {i : Instr} :
    decode sel bytes = .ok i ↔
      bytes.length = keyBytes sel ∧ ofBytes bytes < 2 ^ keyBits sel ∧ decodeKey sel (ofBytes bytes) = .ok i := by
  unfold decode
  split
  · simp [*]
  · split
    · simp [*]
    · simp_all

/-- The DATA24 format reads the two readings of a key whose four low bits are 0, and refuses the others (30_encoding.md
R45, R55 c). -/
theorem decodeKey_data24 (w : Nat) :
    decodeKey .data24 w = if w % 16 = 0 then
      .ok (.rawFrame (BitVec.ofNat 10 (w / 2 ^ 14)) (BitVec.ofNat 10 (w / 2 ^ 4))) else .error .paddingNotZero := by
  have hlow : (BitVec.ofNat 24 w &&& 0x00000F#24).toNat = w % 16 := by
    rw [BitVec.toNat_and, BitVec.toNat_ofNat]
    calc w % 2 ^ 24 &&& 2 ^ 4 - 1 = w % 2 ^ 24 % 2 ^ 4 := Nat.and_two_pow_sub_one_eq_mod _ _
      _ = w % 16 := by omega
  have hmask : ((BitVec.ofNat 24 w &&& 0x00000F#24) == 0x000000#24) = decide (w % 16 = 0) := by
    rw [Bool.eq_iff_iff, beq_iff_eq, decide_eq_true_iff, ← BitVec.toNat_inj, hlow]
    rfl
  have hx : (BitVec.ofNat 24 w).extractLsb' 14 10 = BitVec.ofNat 10 (w / 2 ^ 14) := by
    apply BitVec.eq_of_toNat_eq
    simp [Nat.shiftRight_eq_div_pow]
    omega
  have hy : (BitVec.ofNat 24 w).extractLsb' 4 10 = BitVec.ofNat 10 (w / 2 ^ 4) := by
    apply BitVec.eq_of_toNat_eq
    simp [Nat.shiftRight_eq_div_pow]
    omega
  by_cases h : w % 16 = 0
  · simp [decodeKey, lookup, data24Rows, KeyRow.selects, hmask, h, hx, hy]
  · simp [decodeKey, lookup, data24Rows, KeyRow.selects, hmask, h]

/-- The DATA21 format reads every key: X, then Y, then the last bit (30_encoding.md R48). -/
theorem decodeKey_data21 (w : Nat) :
    decodeKey .data21 w =
      .ok (.wireFrame (BitVec.ofNat 10 (w / 2 ^ 11)) (BitVec.ofNat 10 (w / 2)) (decide (w % 2 = 1))) := by
  have hx : (BitVec.ofNat 21 w).extractLsb' 11 10 = BitVec.ofNat 10 (w / 2 ^ 11) := by
    apply BitVec.eq_of_toNat_eq
    simp [Nat.shiftRight_eq_div_pow]
    omega
  have hy : (BitVec.ofNat 21 w).extractLsb' 1 10 = BitVec.ofNat 10 (w / 2) := by
    apply BitVec.eq_of_toNat_eq
    simp [Nat.shiftRight_eq_div_pow]
    omega
  have hk : (BitVec.ofNat 21 w).getLsbD 0 = decide (w % 2 = 1) := by
    rw [BitVec.getLsbD_ofNat]
    simp
  simp [decodeKey, lookup, data21Rows, KeyRow.selects, hx, hy, ← hk]

/-! ### The two round trips -/

/-- Every key fits its format: the family of lemmas, as one. -/
theorem keyFits : ∀ i : Instr, Laws.KeyFits.Statement i
  | .lnkIdle => Laws.KeyFits.lnkIdle
  | .lnkArm => Laws.KeyFits.lnkArm
  | .lnkAbort => Laws.KeyFits.lnkAbort
  | .lnkSupp => Laws.KeyFits.lnkSupp
  | .lnkReady => Laws.KeyFits.lnkReady
  | .lnkStall c => Laws.KeyFits.lnkStall c
  | .lnkBit c => Laws.KeyFits.lnkBit c
  | .lnkLast c => Laws.KeyFits.lnkLast c
  | .txBit => Laws.KeyFits.txBit
  | .txChk => Laws.KeyFits.txChk
  | .debSuppress => Laws.KeyFits.debSuppress
  | .debRelease => Laws.KeyFits.debRelease
  | .debTouch => Laws.KeyFits.debTouch
  | .sampleX => Laws.KeyFits.sampleX
  | .sampleY => Laws.KeyFits.sampleY
  | .pack => Laws.KeyFits.pack
  | .capture => Laws.KeyFits.capture
  | .txstep => Laws.KeyFits.txstep
  | .goInactive => Laws.KeyFits.goInactive
  | .linkStep => Laws.KeyFits.linkStep
  | .wait => Laws.KeyFits.wait
  | .powerOn => Laws.KeyFits.powerOn
  | .run => Laws.KeyFits.run
  | .rawFrame x y => Laws.KeyFits.rawFrame x y
  | .wireFrame x y k => Laws.KeyFits.wireFrame x y k

/-- The key of an operation selects it in its format, whatever its operands. -/
theorem decodeKey_encodeKey (i : Instr) : decodeKey (selectorOf i) (encodeKey i) = .ok i := by
  cases i with
  | rawFrame x y =>
    have hpad : encodeKey (.rawFrame x y) % 16 = 0 := by simp only [encodeKey]; omega
    have hx : BitVec.ofNat 10 (encodeKey (.rawFrame x y) / 2 ^ 14) = x := by
      apply BitVec.eq_of_toNat_eq
      simp only [encodeKey, BitVec.toNat_ofNat]
      omega
    have hy : BitVec.ofNat 10 (encodeKey (.rawFrame x y) / 2 ^ 4) = y := by
      apply BitVec.eq_of_toNat_eq
      simp only [encodeKey, BitVec.toNat_ofNat]
      omega
    rw [selectorOf, decodeKey_data24, if_pos hpad, hx, hy]
  | wireFrame x y k =>
    have hlt : k.toNat < 2 := k.toNat_lt
    have hx : BitVec.ofNat 10 (encodeKey (.wireFrame x y k) / 2 ^ 11) = x := by
      apply BitVec.eq_of_toNat_eq
      simp only [encodeKey, BitVec.toNat_ofNat]
      omega
    have hy : BitVec.ofNat 10 (encodeKey (.wireFrame x y k) / 2) = y := by
      apply BitVec.eq_of_toNat_eq
      simp only [encodeKey, BitVec.toNat_ofNat]
      omega
    have hk : decide (encodeKey (.wireFrame x y k) % 2 = 1) = k := by
      have hlast : encodeKey (.wireFrame x y k) % 2 = k.toNat := by simp only [encodeKey]; omega
      rw [hlast]
      cases k <;> rfl
    rw [selectorOf, decodeKey_data21, hx, hy, hk]
  | lnkStall c | lnkBit c | lnkLast c => cases c <;> rfl
  | _ => rfl

/-- Settles O10: the bytes of an operation hold its key, which fits the format and selects the operation. -/
theorem decodeOfEncode : Obligations.DecodeOfEncode := by
  intro i _
  obtain ⟨hfits, hlength, hbytes⟩ := keyFits i
  exact decode_eq_ok_iff.2 ⟨hlength, by rwa [hbytes], by rw [hbytes, decodeKey_encodeKey]⟩

/-- Where the key read is the key of the operation, in its own format, the bytes are those the encoder gives. -/
theorem encode_of_key {bytes : List Byte} {i : Instr} (hlength : bytes.length = keyBytes (selectorOf i))
    (hkey : encodeKey i = ofBytes bytes) : encode i = bytes := by
  rw [encode, hkey, ← hlength, toBytes_ofBytes]

theorem encode_of_decode_data24 {bytes : List Byte} {i : Instr} (h : decode .data24 bytes = .ok i) :
    encode i = bytes := by
  obtain ⟨hlength, hfits, hkey⟩ := decode_eq_ok_iff.1 h
  rw [decodeKey_data24] at hkey
  split at hkey
  · next hpad =>
    obtain rfl := Except.ok.inj hkey
    refine encode_of_key hlength ?_
    simp only [encodeKey, BitVec.toNat_ofNat]
    simp only [keyBits] at hfits
    omega
  · cases hkey

theorem encode_of_decode_data21 {bytes : List Byte} {i : Instr} (h : decode .data21 bytes = .ok i) :
    encode i = bytes := by
  obtain ⟨hlength, hfits, hkey⟩ := decode_eq_ok_iff.1 h
  rw [decodeKey_data21] at hkey
  obtain rfl := Except.ok.inj hkey
  refine encode_of_key hlength ?_
  have hlast : (decide (ofBytes bytes % 2 = 1)).toNat = ofBytes bytes % 2 := by
    rcases Nat.mod_two_eq_zero_or_one (ofBytes bytes) with h0 | h1
    · simp [h0]
    · simp [h1]
  simp only [encodeKey, BitVec.toNat_ofNat, hlast]
  simp only [keyBits] at hfits
  omega

/-- Settles O11: in both formats the bits of the two readings, and the last wire bit, make up the whole key. -/
theorem encodeOfDecodedData : Obligations.EncodeOfDecodedData :=
  fun _ _ => ⟨encode_of_decode_data24, encode_of_decode_data21⟩

/-! ### The tables and fixed words (30_encoding.md R54) -/

/-- Settles O9: each of the fourteen words is read in its format. -/
theorem dispatchWordsDecode : Obligations.DispatchWordsDecode :=
  ⟨rfl, rfl, rfl, rfl, rfl, rfl, rfl, rfl, rfl, rfl, rfl, rfl, by decide, by decide⟩

/-- Settles O8: the rows of each table, key by key. -/
theorem patternsSelectExactlyOneArm : Obligations.PatternsSelectExactlyOneArm :=
  ⟨by decide, by decide, by decide, by decide⟩

end Sys2Proof
end

section
/-! The frame of two readings bit by bit, its twenty-one wire bits, and the two data formats performed (30_encoding.md
R45, R46, R48). -/

namespace Sys2Proof.Machine

/-! ### The bits of a packed frame (30_encoding.md R46) -/

/-- X stands in bits 23..14, Y in bits 13..4. -/
theorem pack_getLsbD (x y : Reading) (k : Nat) :
    (pack x y).getLsbD k = if k < 4 then false else if k < 14 then y.getLsbD (k - 4) else x.getLsbD (k - 14) := by
  by_cases h4 : k < 4
  · rw [if_pos h4, pack_getLsbD_pad x y h4]
  · have hy : k - 4 < 10 ↔ k < 14 := by omega
    have hx : k - 4 - 10 = k - 14 := by omega
    rw [if_neg h4, pack, BitVec.getLsbD_append, if_neg h4, BitVec.getLsbD_append, hx]
    simp only [hy]

theorem pack_getLsbD_y (x y : Reading) {k : Nat} (h : k < 10) : (pack x y).getLsbD (4 + k) = y.getLsbD k := by
  rw [pack_getLsbD, if_neg (by omega), if_pos (by omega), Nat.add_sub_cancel_left]

theorem pack_getLsbD_x (x y : Reading) (k : Nat) : (pack x y).getLsbD (14 + k) = x.getLsbD k := by
  rw [pack_getLsbD, if_neg (by omega), if_neg (by omega), Nat.add_sub_cancel_left]

/-- A field of the frame that lies within X is that field of X. -/
theorem pack_extract_x (x y : Reading) (start len : Nat) :
    (pack x y).extractLsb' (14 + start) len = x.extractLsb' start len := by
  apply BitVec.eq_of_getLsbD_eq
  intro i hi
  simp only [BitVec.getLsbD_extractLsb', Nat.add_assoc, pack_getLsbD_x]

/-- A field of the frame that lies within Y is that field of Y. -/
theorem pack_extract_y (x y : Reading) {start len : Nat} (h : start + len ≤ 10) :
    (pack x y).extractLsb' (4 + start) len = y.extractLsb' start len := by
  apply BitVec.eq_of_getLsbD_eq
  intro i hi
  simp only [BitVec.getLsbD_extractLsb', Nat.add_assoc, pack_getLsbD_y x y (show start + i < 10 by omega)]

/-- The shifted form of 30_encoding.md R46. -/
theorem pack_eq_shifts (x y : Reading) : pack x y = (x.setWidth 24 <<< 14) ||| (y.setWidth 24 <<< 4) := by
  apply BitVec.eq_of_getLsbD_eq
  intro k hk
  simp only [pack_getLsbD, BitVec.getLsbD_or, BitVec.getLsbD_shiftLeft, BitVec.getLsbD_setWidth, hk, decide_true,
    Bool.true_and, show k - 14 < 24 by omega, show k - 4 < 24 by omega]
  by_cases h4 : k < 4
  · simp [h4, show k < 14 by omega]
  · by_cases h14 : k < 14
    · simp [h4, h14]
    · simp [h4, h14, y.getLsbD_of_ge (k - 4) (by omega)]

/-- Settles O1: the shifted form, and each field within one of the readings. -/
theorem packLaysOutTheFrame : Obligations.PackLaysOutTheFrame := fun x y =>
  ⟨pack_eq_shifts x y, pack_extract_x x y 2 8, pack_extract_x x y 0 2, pack_extract_y x y (start := 4) (by decide),
    pack_extract_y x y (start := 2) (by decide), pack_extract_y x y (start := 0) (by decide), pad_pack x y⟩

/-! ### The wire bits (30_encoding.md R48) -/

/-- The bits of a reading in the order they are sent, bit 9 first. -/
def readingBits (v : Reading) : List Bool := (List.range 10).map fun k => v.getLsbD (9 - k)

theorem readingBits_length (v : Reading) : (readingBits v).length = 10 := by simp [readingBits]

theorem readingBits_getElem? (v : Reading) {k : Nat} (h : k < 10) : (readingBits v)[k]? = some (v.getLsbD (9 - k)) := by
  simp [readingBits, h, -BitVec.getLsbD_eq_getElem]

theorem payloadBits_length (f : Frame) : (payloadBits f).length = 20 := by simp [payloadBits, Config.payloadBits]

theorem payloadBits_getElem? (f : Frame) {k : Nat} (h : k < 20) : (payloadBits f)[k]? = some (f.getLsbD (23 - k)) := by
  simp [payloadBits, Config.payloadBits, h, -BitVec.getLsbD_eq_getElem]

/-- The payload of a packed frame is its two readings, X first. -/
theorem payloadBits_pack (x y : Reading) : payloadBits (pack x y) = readingBits x ++ readingBits y := by
  apply List.ext_getElem?
  intro k
  by_cases hx : k < 10
  · rw [payloadBits_getElem? _ (by omega), List.getElem?_append_left (by rwa [readingBits_length]),
      readingBits_getElem? x hx, show 23 - k = 14 + (9 - k) by omega, pack_getLsbD_x]
  · rw [List.getElem?_append_right (by rw [readingBits_length]; omega), readingBits_length]
    by_cases hy : k < 20
    · rw [payloadBits_getElem? _ hy, readingBits_getElem? y (by omega), show 23 - k = 4 + (9 - (k - 10)) by omega,
        pack_getLsbD_y x y (by omega)]
    · rw [List.getElem?_eq_none (by rw [payloadBits_length]; omega),
        List.getElem?_eq_none (by rw [readingBits_length]; omega)]

theorem parity_append (a b : List Bool) : parity (a ++ b) = (parity a ^^ parity b) := by
  induction b using List.reverseRecOn with
  | nil => simp [parity]
  | append_singleton b c ih =>
    rw [← List.append_assoc, parity_concat, parity_concat, ih]
    exact Bool.xor_assoc _ _ _

/-- The parity of a reading does not depend on the order of its bits. -/
theorem parity_readingBits (v : Reading) : parity (readingBits v) = readingParity v := by
  have horder : (List.range 10).map (9 - ·) = (List.range 10).reverse := by decide
  have hswap : RightCommutative checksumStep := ⟨Bool.xor_right_comm⟩
  calc parity (readingBits v)
      = parity (((List.range 10).map (9 - ·)).map v.getLsbD) := by rw [List.map_map]; rfl
    _ = parity ((List.range 10).map v.getLsbD).reverse := by rw [horder, List.map_reverse]
    _ = parity ((List.range 10).map v.getLsbD) := (List.reverse_perm _).foldl_eq false
    _ = readingParity v := List.foldl_map

/-- The checksum of a packed frame is the exclusive-or of both readings' bits. -/
theorem parity_payloadBits_pack (x y : Reading) :
    parity (payloadBits (pack x y)) = (readingParity x ^^ readingParity y) := by
  rw [payloadBits_pack, parity_append, parity_readingBits, parity_readingBits]

/-- The wire bits of a frame have even parity (42_transmit.md R89). -/
theorem parity_wireBits (f : Frame) : parity (wireBits f) = false := by
  rw [wireBits, parity_concat]
  exact Bool.xor_self _

theorem wireBits_getElem?_payload (f : Frame) {k : Nat} (h : k < 20) :
    (wireBits f)[k]? = some (f.getLsbD (23 - k)) := by
  rw [wireBits, List.getElem?_append_left (by rwa [payloadBits_length]), payloadBits_getElem? f h]

theorem wireBits_pack (x y : Reading) :
    wireBits (pack x y) = payloadBits (pack x y) ++ [readingParity x ^^ readingParity y] := by
  rw [wireBits, parity_payloadBits_pack]

/-- Settles O3: the payload bits stand in the frame where the readings do, and the last bit is their parity. -/
theorem wireBitsAreReadingsThenParity : Obligations.WireBitsAreReadingsThenParity := by
  refine fun x y => ⟨by simp [wireBits, payloadBits_length], fun k hk => ?_, fun k hk => ?_,
    fun k hk => wireBits_getElem?_payload _ hk, ?_, parity_wireBits _⟩
  · rw [wireBits_getElem?_payload _ (by omega), show 23 - k = 14 + (9 - k) by omega, pack_getLsbD_x]
  · rw [wireBits_getElem?_payload _ (by omega), show 23 - (10 + k) = 4 + (9 - k) by omega,
      pack_getLsbD_y x y (by omega)]
  · rw [wireBits_pack, List.getElem?_append_right (by rw [payloadBits_length]), payloadBits_length]
    rfl

/-! ### The data formats performed (log 7) -/

/-- The last bit of a well-formed WIREFRAME is the checksum of its readings (30_encoding.md R48). -/
theorem wireBits_of_wellFormed {x y : Reading} {k : Bool} (h : WellFormed (.wireFrame x y k) = true) :
    wireBits (pack x y) = payloadBits (pack x y) ++ [k] := by
  have hk : k = (readingParity x ^^ readingParity y) := by simpa [WellFormed] using h
  rw [wireBits_pack, hk]

theorem exec_rawFrame (x y : Reading) (s : State) :
    exec (.rawFrame x y) s = .next { s with rawFrame := pack x y } := rfl

theorem exec_wireFrame (x y : Reading) (k : Bool) (s : State) :
    exec (.wireFrame x y k) s = .next (driveBits (payloadBits (pack x y) ++ [k]) s) := rfl

/-- Settles O47: RAWFRAME writes the packed frame, WIREFRAME drives bits of which the last is `k`. -/
theorem dataFormatsPerformed : Obligations.DataFormatsPerformed := by
  refine fun s x y k => ⟨exec_rawFrame x y s, fun h => ?_⟩
  rw [exec_wireFrame, driveBits_eq, wireBits_of_wellFormed h]
  simp

end Sys2Proof.Machine
end

section
/-! The dispatch word a LINK_STEP computes, bit by bit (30_encoding.md R52), and the staged word (log 9): the state
`withFetchWord` sets up is one whose LINK_STEP selects the arm the decoder reads from the word. -/

namespace Sys2Proof.Machine

/-! ### The bits of the dispatch word (30_encoding.md R52) -/

/-- Where the five fields stand in a dispatch word. -/
theorem dispatchBits_fields (l : LinkState) (c e r t : Bool) :
    (dispatchBits l c e r t).extractLsb' 4 2 = linkCode l ∧ (dispatchBits l c e r t).getLsbD 3 = c ∧
      (dispatchBits l c e r t).getLsbD 2 = e ∧ (dispatchBits l c e r t).getLsbD 1 = r ∧
      (dispatchBits l c e r t).getLsbD 0 = t := by
  cases l <;> revert c e r t <;> decide

theorem dispatchWord_inactive {s : State} (h : s.linkState = .inactive) :
    dispatchWord s = dispatchBits .inactive s.clk false false false := by
  simp [dispatchWord, h, pinReadClk]

theorem dispatchWord_capturing {s : State} (h : s.linkState = .capturing) :
    dispatchWord s = dispatchBits .capturing s.clk false (s.clk && captureResult s) false := by
  simp [dispatchWord, h, pinReadClk]

theorem dispatchWord_transmitting {s : State} (h : s.linkState = .transmitting) :
    dispatchWord s = dispatchBits .transmitting s.clk (edgeBit s.clk s.lastClockLevel) false
      (edgeBit s.clk s.lastClockLevel && lastBit s.txCounter) := by
  simp [dispatchWord, h, pinReadClk]

/-- In every state the word starts with the link state and the clock level. -/
theorem dispatchWord_starts_with_state_and_clock (s : State) :
    ∃ e r t, dispatchWord s = dispatchBits s.linkState s.clk e r t := by
  cases h : s.linkState with
  | inactive => exact ⟨_, _, _, dispatchWord_inactive h⟩
  | capturing => exact ⟨_, _, _, dispatchWord_capturing h⟩
  | transmitting => exact ⟨_, _, _, dispatchWord_transmitting h⟩

/-- The bit `r` is the result of CAPTURE wherever it returns. -/
theorem captureResult_eq_ready {s t : State} (ha : 2 ≤ s.adcAnswers.length) (h : exec .capture s = .next t) :
    captureResult s = t.ready := by
  match hs : s.adcAnswers with
  | [] | [_] => simp [hs] at ha
  | x :: y :: rest =>
    have ht : captureThen s id = t := Host.Outcome.next.inj h
    rw [captureResult_answered s hs, ← ht, captureThen_answered s id hs, id]

/-- Settles O12: the word of each link state, field by field. -/
theorem dispatchWordBits : Obligations.DispatchWordBits := by
  intro s
  obtain ⟨e, r, t, hw⟩ := dispatchWord_starts_with_state_and_clock s
  obtain ⟨hcode, hclk, -⟩ := dispatchBits_fields s.linkState s.clk e r t
  refine ⟨hw ▸ hcode, hw ▸ hclk, fun hl => ?_, fun t hl hc ha ht => ?_, fun hl hne => ?_⟩
  · obtain ⟨-, -, he, -, -⟩ := dispatchBits_fields .transmitting s.clk (edgeBit s.clk s.lastClockLevel) false
      (edgeBit s.clk s.lastClockLevel && lastBit s.txCounter)
    rw [dispatchWord_transmitting hl, he]
    rfl
  · obtain ⟨-, -, -, hr, -⟩ := dispatchBits_fields .capturing s.clk false (s.clk && captureResult s) false
    rw [dispatchWord_capturing hl, hr, hc, Bool.true_and, captureResult_eq_ready ha ht]
  · have hedge : edgeBit s.clk s.lastClockLevel = true := by simpa [edgeBit] using hne
    obtain ⟨-, -, -, -, ht⟩ := dispatchBits_fields .transmitting s.clk true false (true && lastBit s.txCounter)
    rw [dispatchWord_transmitting hl, hedge, ht]
    rfl

/-! ### The staged word (log 9) -/

/-- A word whose two top bits name a link state is the dispatch word of its own bits. -/
theorem dispatchBits_of_linkOfCode {k : DispatchWord} {l : LinkState} (h : linkOfCode (k.extractLsb' 4 2) = some l) :
    dispatchBits l (k.getLsbD 3) (k.getLsbD 2) (k.getLsbD 1) (k.getLsbD 0) = k := by
  revert k
  cases l <;> decide

/-- A word whose two top bits name no link state is refused (30_encoding.md R55 a). -/
theorem decode_lnk_of_reserved {k : DispatchWord} (h : linkOfCode (k.extractLsb' 4 2) = none) :
    decode .lnk (toBytes 1 k.toNat) = .error .reservedLinkState := by
  revert k
  decide

/-- Below the reserved words every byte is a dispatch word (30_encoding.md R54). -/
theorem decodeWordAs_lnk_isSome : ∀ w < 48, (decodeWordAs .lnk w).isSome = true := by decide

/-- A table word is read in a format where its bytes decode. -/
theorem decodeWordAs_eq_some_iff {sel : Selector} {w : Nat} {i : Instr} :
    decodeWordAs sel w = some i ↔ w < 256 ^ keyBytes sel ∧ decode sel (toBytes (keyBytes sel) w) = .ok i := by
  unfold decodeWordAs
  split
  · next hw => simp [Nat.not_lt.2 hw]
  · next hw => split <;> simp_all

/-- A table word read in a format fits the key's bits. -/
theorem lt_of_decodeWordAs {sel : Selector} {w : Nat} {i : Instr} (h : decodeWordAs sel w = some i) :
    w < 2 ^ keyBits sel := by
  obtain ⟨hw, hd⟩ := decodeWordAs_eq_some_iff.1 h
  obtain ⟨-, hfits, -⟩ := decode_eq_ok_iff.1 hd
  rwa [ofBytes_toBytes, Nat.mod_eq_of_lt hw] at hfits

/-- A byte that is a table word at all is a dispatch word: the other formats of one byte take smaller numbers, and LNK
reads those first (log 10). -/
theorem decodeWordAs_lnk_of_decodeTableWord {w : Nat} {i : Instr} (h : decodeTableWord 8 w = some i) :
    decodeWordAs .lnk w = some i := by
  have hsome : (decodeWordAs .lnk w).isSome = true := by
    obtain ⟨sel, hmem, hsel⟩ := List.exists_of_findSome?_eq_some h
    have hw := lt_of_decodeWordAs hsel
    simp only [tableSelectors, List.mem_cons, List.not_mem_nil, or_false] at hmem
    obtain rfl | rfl | rfl | rfl := hmem
    · simp [hsel]
    all_goals
      simp only [keyBits] at hw
      exact decodeWordAs_lnk_isSome w (by omega)
  obtain ⟨j, hj⟩ := Option.isSome_iff_exists.1 hsome
  simpa [decodeTableWord, tableSelectors, hj] using h

/-- The link state and the bits of a word that decodes, and the arm they select. -/
theorem selectedArm_of_decodeTableWord {w : Nat} {i : Instr} (h : decodeTableWord 8 w = some i) :
    ∃ l, linkOfCode ((BitVec.ofNat 6 w).extractLsb' 4 2) = some l ∧
      i = selectedArm l (wordBit w 3) (wordBit w 2) (wordBit w 1) (wordBit w 0) := by
  have hlnk := decodeWordAs_lnk_of_decodeTableWord h
  have hw : (BitVec.ofNat 6 w).toNat = w := by
    rw [BitVec.toNat_ofNat]
    exact Nat.mod_eq_of_lt (lt_of_decodeWordAs hlnk)
  obtain ⟨-, hd⟩ := decodeWordAs_eq_some_iff.1 hlnk
  change decode .lnk (toBytes 1 w) = .ok i at hd
  cases hl : linkOfCode ((BitVec.ofNat 6 w).extractLsb' 4 2) with
  | none =>
    have hreserved := decode_lnk_of_reserved hl
    rw [hw, hd] at hreserved
    cases hreserved
  | some l =>
    have hword := decode_dispatchBits l (wordBit w 3) (wordBit w 2) (wordBit w 1) (wordBit w 0)
    simp only [wordBit] at hword ⊢
    rw [dispatchBits_of_linkOfCode hl, hw, hd] at hword
    exact ⟨l, rfl, Except.ok.inj hword⟩

/-! What `stageWord` sets, by the link state the word names. -/

section

variable {w : Nat} (s : State)

theorem stageWord_inactive (h : linkOfCode ((BitVec.ofNat 6 w).extractLsb' 4 2) = some .inactive) :
    stageWord w s = { s with linkState := .inactive, clk := wordBit w 3 } := by
  simp [stageWord, h]

/-- In `Capturing` with the clock high the staged readings decide the result; otherwise the answers are those queued. -/
theorem stageWord_capturing (h : linkOfCode ((BitVec.ofNat 6 w).extractLsb' 4 2) = some .capturing) :
    stageWord w s = { s with
      linkState := .capturing
      clk := wordBit w 3
      adcAnswers := if wordBit w 3 then (if wordBit w 1 then 1 else 0) :: 0 :: s.adcAnswers else s.adcAnswers
      debounceFlag := if wordBit w 3 && !wordBit w 1 then false else s.debounceFlag } := by
  cases hc : wordBit w 3 <;> cases hr : wordBit w 1 <;> simp [stageWord, h, hc, hr]

theorem stageWord_transmitting (h : linkOfCode ((BitVec.ofNat 6 w).extractLsb' 4 2) = some .transmitting) :
    stageWord w s = { s with
      linkState := .transmitting
      clk := wordBit w 3
      lastClockLevel := wordBit w 3 ^^ wordBit w 2
      txCounter := if wordBit w 0 then Config.txLast else if lastBit s.txCounter then 0 else s.txCounter } := by
  simp [stageWord, h]

/-- Staging a word schedules nothing. -/
theorem stageWord_schedule {l : LinkState} (h : linkOfCode ((BitVec.ofNat 6 w).extractLsb' 4 2) = some l) :
    (stageWord w s).schedule = s.schedule := by
  cases l with
  | inactive => rw [stageWord_inactive s h]
  | capturing => rw [stageWord_capturing s h]
  | transmitting => rw [stageWord_transmitting s h]

/-- The staged state's LINK_STEP selects the arm of the word's bits, whatever the core was doing and whatever is
scheduled. -/
theorem fetch_stageWord {l : LinkState} (h : linkOfCode ((BitVec.ofNat 6 w).extractLsb' 4 2) = some l)
    (a : Activity) (turns : List Turn) :
    fetch { stageWord w s with activity := a, schedule := turns } =
      .ok (selectedArm l (wordBit w 3) (wordBit w 2) (wordBit w 1) (wordBit w 0)) := by
  cases l with
  | inactive =>
    rw [stageWord_inactive s h, fetch_inactive _ rfl]
    rfl
  | capturing =>
    rw [stageWord_capturing s h, fetch_capturing _ rfl]
    cases hc : wordBit w 3 with
    | false => rfl
    | true =>
      rw [captureResult_answered _ rfl]
      cases hr : wordBit w 1 <;> rfl
  | transmitting =>
    rw [stageWord_transmitting s h, fetch_transmitting _ rfl]
    have hedge : edgeBit (wordBit w 3) (wordBit w 3 ^^ wordBit w 2) = wordBit w 2 := by simp [edgeBit]
    have hlast : lastBit (if wordBit w 0 then Config.txLast else if lastBit s.txCounter then 0 else s.txCounter) =
        wordBit w 0 := by
      cases wordBit w 0 <;> cases hn : lastBit s.txCounter <;> simp [hn] <;> rfl
    simp only [hedge, hlast, selectedArm]

end

/-- Settles O46: the staged state's next turn is the core's LINK_STEP, whose fetched arm is the decoded word's. -/
theorem fetchWordRunsNext : Obligations.FetchWordRunsNext := by
  intro s w i h
  obtain ⟨l, hl, rfl⟩ := selectedArm_of_decodeTableWord h
  have hstaged : s.withFetchWord 8 w = stageTurn (stageWord w s) := rfl
  obtain ⟨j, hj, hperforms⟩ :=
    fetch_performs_linkStep { stageWord w s with activity := .running, schedule := s.schedule }
  rw [fetch_stageWord s hl] at hj
  obtain rfl := Except.ok.inj hj
  refine ⟨_, hperforms, ?_⟩
  rw [hstaged, step_eq, stageTurn, ← stageWord_schedule s hl]
  rfl

end Sys2Proof.Machine
end

section
/-! The sampler: a sample answered (40_sampler.md R61, R62) and one never answered, alone and under the operations that
capture (40_sampler.md R64). -/

namespace Sys2Proof.Machine

/-! ### An answered sample (40_sampler.md R61, R62) -/

/-- Settles O13: the record of an answered sample, for the axis X. -/
theorem sampleXReadsAxisX : Obligations.SampleXReadsAxisX := fun s _ _ h =>
  congrArg Host.Outcome.next (sampleThen_answered .x s id h)

/-- Settles O14: the record of an answered sample, for the axis Y. -/
theorem sampleYReadsAxisY : Obligations.SampleYReadsAxisY := fun s _ _ h =>
  congrArg Host.Outcome.next (sampleThen_answered .y s id h)

/-! ### A sample never answered (40_sampler.md R64) -/

/-- The operations that reach the sampler through CAPTURE (41_capture.md R76, 43_link.md R100, R101): each is a capture
and what it does after it, which is all in which they differ. -/
theorem exec_eq_captureThen {i : Instr} {s : State}
    (h : i ∈ [.capture, .lnkSupp, .lnkReady] ∨ i = .linkStep ∧ s.linkState = .capturing ∧ s.clk = true) :
    ∃ k, exec i s = .next (captureThen s k) := by
  obtain hmem | ⟨rfl, hl, hc⟩ := h
  · simp only [List.mem_cons, List.not_mem_nil, or_false] at hmem
    obtain rfl | rfl | rfl := hmem
    · exact ⟨id, rfl⟩
    · exact ⟨id, rfl⟩
    · exact ⟨readyOp true, rfl⟩
  · have hw := linkStepOp_capturing s hl
    rw [if_pos hc] at hw
    exact ⟨_, congrArg Host.Outcome.next hw⟩

/-- A turn of a core inside a sample that never ends only uses up the turn. -/
theorem step_core_of_blocked {s : State} {a : Axis} (h : s.activity = .blocked a)
    (hturn : s.schedule.headD .core = .core) : step s = .next { s with schedule := s.schedule.tail } := by
  rw [step_eq, hturn]
  exact congrArg Host.Outcome.next (coreMove_blocked _ h)

/-- Settles O15: the sample alone, a capture stuck in its first and in its second sample, and the turns of the stuck
core. -/
theorem unansweredSampleIsStuck : Obligations.UnansweredSampleIsStuck := by
  refine ⟨fun s h => ⟨?_, ?_⟩, fun s i h hi => ?_, fun s i x h hi => ?_, fun s a ha hs => ?_, fun s a rest ha hs => ?_⟩
  · exact congrArg Host.Outcome.next (sampleThen_silent .x s id h)
  · exact congrArg Host.Outcome.next (sampleThen_silent .y s id h)
  · obtain ⟨k, hk⟩ := exec_eq_captureThen hi
    rw [hk, captureThen_silent s k h]
  · obtain ⟨k, hk⟩ := exec_eq_captureThen hi
    rw [hk, captureThen_half s k h]
  · have hunscheduled : { s with schedule := [] } = s := by rw [← hs]
    rw [step_core_of_blocked ha (by simp [hs]), hs, List.tail_nil, hunscheduled]
  · rw [step_core_of_blocked ha (by simp [hs]), hs, List.tail_cons]

end Sys2Proof.Machine
end

section
/-! The capture: the frame unpacked (41_capture.md R77), PACK and the debounce operations (R71, R73 to R75), CAPTURE in
closed form (R76, R80) and the debounce law over sequences of captures (R78). -/

namespace Sys2Proof.Machine

open Sys2Proof.Safety

/-! ### Packing is invertible (41_capture.md R77) -/

theorem unpackX_pack (x y : Reading) : unpackX (pack x y) = x :=
  (pack_extract_x x y 0 10).trans BitVec.extractLsb'_eq_self

theorem unpackY_pack (x y : Reading) : unpackY (pack x y) = y :=
  (pack_extract_y x y (start := 0) (len := 10) (by decide)).trans BitVec.extractLsb'_eq_self

/-- Equal frames unpack to equal readings. -/
theorem pack_injective {x y x' y' : Reading} (h : pack x y = pack x' y') : x = x' ∧ y = y' := by
  constructor
  · rw [← unpackX_pack x y, h, unpackX_pack]
  · rw [← unpackY_pack x y, h, unpackY_pack]

/-- Settles O2: unpacking inverts packing, so packing is injective. -/
theorem unpackInvertsPack : Obligations.UnpackInvertsPack :=
  ⟨fun x y => ⟨unpackX_pack x y, unpackY_pack x y, pad_pack x y⟩, fun _ _ _ _ => pack_injective⟩

/-! ### PACK and the debounce operations (41_capture.md R71, R73 to R75) -/

/-- Settles O16: the frame PACK writes, in the shifted form of 30_encoding.md R46. -/
theorem packWritesRawFrame : Obligations.PackWritesRawFrame := fun s => by
  rw [← pack_eq_shifts]
  rfl

/-- Settles O17: the operation is this record update. -/
theorem debSuppressReturnsZero : Obligations.DebSuppressReturnsZero := fun _ => rfl

/-- Settles O18: the operation is this record update. -/
theorem debTouchSetsTheFlag : Obligations.DebTouchSetsTheFlag := fun _ => rfl

/-- Settles O19: the operation is this record update. -/
theorem debReleaseClearsTheFlag : Obligations.DebReleaseClearsTheFlag := fun _ => rfl

/-! ### CAPTURE in closed form (41_capture.md R76, R80) -/

theorem nonZero_eq_decide (f : Frame) : nonZero f = decide (f ≠ 0) := by
  rw [Bool.eq_iff_iff, decide_eq_true_iff]
  exact bne_iff_ne

/-- A CAPTURE whose two conversions are answered, as an operation of the machine. -/
theorem exec_capture_answered (s : State) {x y : Reading} {rest : List Reading} (h : s.adcAnswers = x :: y :: rest) :
    exec .capture s = .next (captured x y rest s) :=
  congrArg Host.Outcome.next (captureThen_answered s id h)

/-- The counter survives a capture that is suppressed, which is one with a zero frame and the flag at 0. -/
theorem captured_txCounter (x y : Reading) (rest : List Reading) (s : State) :
    (captured x y rest s).txCounter = if pack x y = 0 ∧ s.debounceFlag = false then s.txCounter else 0 := by
  have hready : (nonZero (pack x y) || s.debounceFlag) = true ↔ ¬(pack x y = 0 ∧ s.debounceFlag = false) := by
    rw [nonZero_eq_decide]
    cases s.debounceFlag <;> simp
  by_cases hsupp : pack x y = 0 ∧ s.debounceFlag = false
  · rw [if_pos hsupp]
    exact if_neg (mt hready.1 (not_not_intro hsupp))
  · rw [if_neg hsupp]
    exact if_pos (hready.2 hsupp)

/-- Settles O20: the state a completed capture leaves, with `nz` written out. -/
theorem captureClosedForm : Obligations.CaptureClosedForm := fun s x y rest h => by
  rw [exec_capture_answered s h, ← captured_txCounter x y rest s, ← nonZero_eq_decide]
  rfl

/-! ### The debounce law (41_capture.md R78) -/

/-- Only two zero readings pack to the zero frame. -/
theorem pack_eq_zero_iff (x y : Reading) : pack x y = 0 ↔ (x, y) = (0, 0) := by
  constructor
  · intro h
    obtain ⟨rfl, rfl⟩ := pack_injective (x' := 0) (y' := 0) h
    rfl
  · intro h
    obtain ⟨rfl, rfl⟩ := Prod.mk.inj h
    rfl

/-- So `nz` can be read off the readings. -/
theorem nonZero_pack (x y : Reading) : nonZero (pack x y) = decide ((x, y) ≠ (0, 0)) := by
  rw [nonZero_eq_decide]
  exact decide_eq_decide.2 (not_congr (pack_eq_zero_iff x y))

/-- One capture of a sequence: it returns `nz | f`, and the rest of the sequence starts from the state it leaves. -/
theorem captureResults_cons (x y : Reading) (more : List (Reading × Reading)) (s : State) :
    captureResults ((x, y) :: more) s =
      (decide ((x, y) ≠ (0, 0)) || s.debounceFlag) :: captureResults more (captured x y [] s) := by
  rw [captureResults, exec_capture_answered { s with adcAnswers := [x, y] } rfl, ← nonZero_pack]
  rfl

/-- The flag a capture leaves tells whether its readings were non-zero. -/
theorem captured_debounceFlag (x y : Reading) (rest : List Reading) (s : State) :
    (captured x y rest s).debounceFlag = decide ((x, y) ≠ (0, 0)) :=
  nonZero_pack x y

/-- The end of a sequence of captures is a sequence of its own, from the state the captures before it leave. -/
theorem captureResults_append (before more : List (Reading × Reading)) (s : State) :
    ∃ t, captureResults (before ++ more) s = captureResults before s ++ captureResults more t := by
  induction before generalizing s with
  | nil => exact ⟨s, rfl⟩
  | cons p before ih =>
    obtain ⟨x, y⟩ := p
    obtain ⟨t, ht⟩ := ih (captured x y [] s)
    exact ⟨t, by rw [List.cons_append, captureResults_cons, captureResults_cons, ht, List.cons_append]⟩

/-- All-zero captures that start with the flag at 0 are suppressed, and each leaves the flag at 0 for the next. -/
theorem captureResults_zeros {s : State} (h : s.debounceFlag = false) (n : Nat) :
    captureResults (List.replicate n (0, 0)) s = List.replicate n false := by
  induction n generalizing s with
  | zero => rfl
  | succ n ih =>
    rw [List.replicate_succ, captureResults_cons, h, ih (captured_debounceFlag 0 0 [] s)]
    rfl

/-- Settles O21: each capture returns `nz | f`, and `f` is the `nz` of the capture before it. -/
theorem debounceLaw : Obligations.DebounceLaw := by
  refine ⟨fun s before x y h => ?nonzero, fun s before x y => ?afterAny, fun s x y n h => ?run,
    fun s n h => captureResults_zeros h n⟩
  case nonzero =>
    obtain ⟨t, ht⟩ := captureResults_append before [(x, y)] s
    rw [ht, captureResults_cons, decide_eq_true h]
    exact List.getLast?_concat
  case afterAny =>
    obtain ⟨t, ht⟩ := captureResults_append before [(x, y), (0, 0)] s
    rw [ht, captureResults_cons, captureResults_cons, captured_debounceFlag]
    simp [captureResults]
  case run =>
    rw [List.replicate_succ, captureResults_cons, captureResults_cons, captured_debounceFlag,
      captureResults_zeros (captured_debounceFlag 0 0 [] _), decide_eq_true h]
    rfl

end Sys2Proof.Machine
end

section
/-! The transmitter: TX.BIT, TX.CHK and the choice between them (42_transmit.md R86 to R88), the bits a run of TXSTEPs
drives (R90), and what the receiver's parity tells (R89). -/

namespace Sys2Proof.Machine

open Sys2Proof.Safety

/-! ### The operations (42_transmit.md R86, R87) -/

theorem exec_txBit (s : State) : exec .txBit s = .next (txBitOp s) := rfl

theorem exec_txChk (s : State) : exec .txChk s = .next (txChkOp s) := rfl

theorem exec_txstep (s : State) : exec .txstep s = .next (txStepOp s) := rfl

/-- Shifting a bit out, written as the bits that stay: `RawFrame[22:0] 0` (42_transmit.md R86). -/
theorem shiftFrame_eq_append (f : Frame) : shiftFrame f = f.extractLsb' 0 23 ++ 0b0#1 :=
  BitVec.shiftLeft_eq_concat_of_lt (by decide)

/-- TX.BIT at 20 as one record update: the counter it leaves is the free value (log 6). -/
theorem txBitOp_past (s : State) (h : s.txCounter = 20) :
    txBitOp s = { s with
      dataDir := .out, dataLevel := s.rawFrame.getLsbD 23, checksum := s.checksum ^^ s.rawFrame.getLsbD 23,
      rawFrame := shiftFrame s.rawFrame, txCounter := Config.txCounterPastLast s.draws, draws := s.draws + 1,
      final := false, trace := s.trace ++ [.dataDrive (s.rawFrame.getLsbD 23)] } := by
  have hlast : lastBit s.txCounter = true := (lastBit_eq_true _).2 h
  have hcount : countStep s.txCounter (Config.txCounterPastLast s.draws) = Config.txCounterPastLast s.draws :=
    dif_neg (by rw [h]; decide)
  simp [txBitOp, dataDrive, emit, frontBit, checksumStep, hlast, hcount]

/-- TX.BIT below 20 counts one more (42_transmit.md R93). -/
theorem txBitOp_txCounter {s : State} (h : s.txCounter.val < 20) :
    (txBitOp s).txCounter.val = s.txCounter.val + 1 := by
  rw [txBitOp_eq s h]

/-- Settles O22: the record of TX.BIT below 20, with the shifted frame written as its bits. -/
theorem txBitShiftsOneBitOut : Obligations.TxBitShiftsOneBitOut := fun s h => by
  rw [exec_txBit, txBitOp_eq s h, ← shiftFrame_eq_append]
  rfl

/-- Settles O23: the counter value TX.BIT leaves at 20 is the free value. -/
theorem txBitPastTheLastBit : Obligations.TxBitPastTheLastBit := fun s h =>
  ⟨Config.txCounterPastLast s.draws, by rw [exec_txBit, txBitOp_past s h, ← shiftFrame_eq_append]⟩

/-- Settles O24: the record of TX.CHK. -/
theorem txChkDrivesTheChecksum : Obligations.TxChkDrivesTheChecksum := fun s => by
  rw [exec_txChk, txChkOp_eq]

/-! ### TXSTEP (42_transmit.md R88) -/

theorem exec_txstep_bit {s : State} (h : s.txCounter.val < 20) : exec .txstep s = .next (txBitOp s) := by
  rw [exec_txstep, txStepOp_bit s h]

theorem exec_txstep_chk {s : State} (h : s.txCounter = 20) : exec .txstep s = .next (txChkOp s) := by
  rw [exec_txstep, txStepOp_chk s h]

/-- Settles O25: the two operations by the counter, and the result each returns. -/
theorem txstepDispatchesOnTheCounter : Obligations.TxstepDispatchesOnTheCounter := fun s =>
  ⟨fun h => ⟨txBitOp s, exec_txstep_bit h, exec_txBit s, txBitOp_final s⟩,
    fun h => ⟨txChkOp s, exec_txstep_chk (Fin.ext h), exec_txChk s, txChkOp_final s⟩⟩

/-! ### A run of TXSTEPs (42_transmit.md R90) -/

/-- A repetition can be prolonged at its end: one more time, after `n` that completed. -/
theorem repeatOp_succ {i : Instr} {n : Nat} {s t : State} (h : repeatOp i n s = .next t) :
    repeatOp i (n + 1) s = exec i t := by
  induction n generalizing s with
  | zero =>
    cases h
    rw [repeatOp]
    cases exec i t <;> rfl
  | succ n ih =>
    rw [repeatOp] at h ⊢
    cases hs : exec i s with
    | next u =>
      rw [hs] at h
      exact ih h
    | fault r => cases r
    | refused r =>
      rw [hs] at h
      cases h

/-- What `k` TX.BITs have done to a fresh frame in `s` by the state `t`: the frame is shifted by `k`, its first `k`
payload bits stand in the trace, and their exclusive-or in the checksum. -/
structure Sent (k : Nat) (s t : State) : Prop where
  count : t.txCounter.val = k
  frame : t.rawFrame = s.rawFrame <<< k
  checksum : t.checksum = parity ((payloadBits s.rawFrame).take k)
  trace : t.trace = s.trace ++ drives ((payloadBits s.rawFrame).take k)
  final : 1 ≤ k → t.final = false

theorem sent_zero {s : State} (hc : s.checksum = false) (hn : s.txCounter = 0) : Sent 0 s s where
  count := by rw [hn]; rfl
  frame := (BitVec.shiftLeft_zero _).symm
  checksum := hc
  trace := by simp [drives]
  final := fun h => absurd h (by decide)

/-- The front bit of a frame shifted by `k` is its next payload bit, and TX.BIT sends it. -/
theorem sent_txBitOp {k : Nat} {s t : State} (h : Sent k s t) (hk : k < 20) : Sent (k + 1) s (txBitOp t) where
  count := by rw [txBitOp_txCounter (h.count.trans_lt hk), h.count]
  frame := by rw [txBitOp_rawFrame, shiftFrame, h.frame, BitVec.shiftLeft_add]
  checksum := by rw [txBitOp_checksum, payloadBits_take_succ _ hk, parity_concat, h.checksum, h.frame]
  trace := by
    rw [txBitOp_trace, payloadBits_take_succ _ hk, h.trace, h.frame]
    simp [drives]
  final := fun _ => txBitOp_final t

/-- Up to twenty TXSTEPs from a fresh frame are TX.BITs (42_transmit.md R90). -/
theorem repeatOp_txstep_sent {s : State} (hc : s.checksum = false) (hn : s.txCounter = 0) {k : Nat} (hk : k ≤ 20) :
    ∃ t, repeatOp .txstep k s = .next t ∧ Sent k s t := by
  induction k with
  | zero => exact ⟨s, rfl, sent_zero hc hn⟩
  | succ k ih =>
    obtain ⟨t, hrun, hsent⟩ := ih (by omega)
    have hbelow : t.txCounter.val < 20 := by rw [hsent.count]; omega
    exact ⟨txBitOp t, by rw [repeatOp_succ hrun, exec_txstep_bit hbelow], sent_txBitOp hsent hk⟩

/-- The TXSTEP after the twenty payload bits is TX.CHK, and completes the wire frame. -/
theorem txChkOp_trace_of_sent {s t : State} (h : Sent 20 s t) :
    (txChkOp t).trace = s.trace ++ drives (wireBits s.rawFrame) := by
  have hall : (payloadBits s.rawFrame).take 20 = payloadBits s.rawFrame :=
    List.take_of_length_le (payloadBits_length _).le
  rw [txChkOp_trace, h.trace, h.checksum, hall]
  simp [drives, wireBits]

/-- Settles O26: `k` TXSTEPs have sent `k` payload bits, and after twenty the last drives the checksum. -/
theorem txstepsDriveTheWireFrame : Obligations.TxstepsDriveTheWireFrame := by
  refine fun s hc hn => ⟨fun k h1 hk => ?payload, ?wholeFrame⟩
  case payload =>
    obtain ⟨t, hrun, hsent⟩ := repeatOp_txstep_sent hc hn hk
    exact ⟨t, hrun, hsent.count, hsent.frame, hsent.checksum, hsent.trace, hsent.final h1⟩
  case wholeFrame =>
    obtain ⟨t, hrun, hsent⟩ := repeatOp_txstep_sent hc hn le_rfl
    have hlast : t.txCounter = 20 := Fin.ext hsent.count
    exact ⟨txChkOp t, by rw [repeatOp_succ hrun, exec_txstep_chk hlast], txChkOp_trace_of_sent hsent,
      txChkOp_final t, hsent.count⟩

/-! ### The receiver's parity (42_transmit.md R89) -/

theorem parity_cons (b : Bool) (bits : List Bool) : parity (b :: bits) = (b ^^ parity bits) :=
  (parity_append [b] bits).trans (by simp [parity, checksumStep])

/-- Flipping any one bit flips the exclusive-or of all of them. -/
theorem parity_modify_not {bits : List Bool} {k : Nat} (h : k < bits.length) :
    parity (bits.modify k not) = !parity bits :=
  calc parity (bits.modify k not)
      = (parity (bits.take k) ^^ (!bits[k] ^^ parity (bits.drop (k + 1)))) := by
        rw [List.modify_eq_take_cons_drop h, parity_append, parity_cons]
    _ = !(parity (bits.take k) ^^ (bits[k] ^^ parity (bits.drop (k + 1)))) := by
        rw [Bool.not_xor, Bool.xor_not]
    _ = !parity bits := by
        rw [← parity_cons, ← parity_append, List.getElem_cons_drop, List.take_append_drop]

/-- Settles O4: the wire bits have even parity, and a flip of one of them makes it odd. -/
theorem parityDetectsASingleFlip : Obligations.ParityDetectsASingleFlip := by
  refine fun f => ⟨parity_wireBits f, fun k hk => ?_⟩
  have hlength : k < (wireBits f).length := by simpa [wireBits, payloadBits_length] using hk
  rw [parity_modify_not hlength, parity_wireBits, Bool.not_false]

end Sys2Proof.Machine
end

section
/-! The arms of LINK_STEP (43_link.md R97 to R106), the arm the dispatch word selects (R96), and the table of the
transitions (R109). -/

namespace Sys2Proof.Machine

open Sys2Proof.Safety

/-! ### The operations -/

@[simp] theorem exec_lnkIdle (s : State) : exec .lnkIdle s = .next s := rfl

@[simp] theorem exec_lnkArm (s : State) : exec .lnkArm s = .next { s with linkState := .capturing } := rfl

@[simp] theorem exec_lnkAbort (s : State) : exec .lnkAbort s = .next (goInactiveOp s) := rfl

@[simp] theorem exec_lnkSupp (s : State) : exec .lnkSupp s = .next (captureThen s id) := rfl

@[simp] theorem exec_lnkReady (s : State) : exec .lnkReady s = .next (captureThen s (readyOp true)) := rfl

@[simp] theorem exec_lnkStall (c : Bool) (s : State) : exec (.lnkStall c) s = .next (goInactiveOp s) := rfl

@[simp] theorem exec_lnkBit (c : Bool) (s : State) :
    exec (.lnkBit c) s = .next (txStepOp { s with lastClockLevel := c }) := rfl

@[simp] theorem exec_lnkLast (c : Bool) (s : State) :
    exec (.lnkLast c) s = .next (goInactiveOp (txStepOp { s with lastClockLevel := c })) := rfl

@[simp] theorem exec_goInactive (s : State) : exec .goInactive s = .next (goInactiveOp s) := rfl

@[simp] theorem exec_linkStep (s : State) : exec .linkStep s = .next (linkStepOp s) := rfl

@[simp] theorem exec_wait (s : State) : exec .wait s = .next (waitOp s) := rfl

/-! ### The arms, one by one -/

/-- Settles O27: the arm is empty. -/
theorem idleChangesNothing : Obligations.IdleChangesNothing := exec_lnkIdle

/-- Settles O28: the arm is this record update. -/
theorem armWritesLinkStateOnly : Obligations.ArmWritesLinkStateOnly := exec_lnkArm

/-- GO_INACTIVE after GO_INACTIVE only drives the idle level once more (43_link.md R106). -/
theorem goInactiveOp_goInactiveOp (s : State) :
    goInactiveOp (goInactiveOp s) =
      { goInactiveOp s with trace := (goInactiveOp s).trace ++ [.dataDrive false] } := rfl

/-- Settles O29: the record of GO_INACTIVE, and of GO_INACTIVE performed twice. -/
theorem goInactiveResetsTheLink : Obligations.GoInactiveResetsTheLink := by
  refine fun s => ⟨by rw [exec_goInactive, goInactiveOp_eq], fun t h => ?_⟩
  obtain rfl := Host.Outcome.next.inj h
  rw [exec_goInactive, goInactiveOp_goInactiveOp]

/-- Settles O30: both arms are GO_INACTIVE. -/
theorem abortArmsPerformGoInactive : Obligations.AbortArmsPerformGoInactive := fun s c =>
  ⟨by rw [exec_lnkAbort, goInactiveOp_eq], by rw [exec_lnkStall, goInactiveOp_eq]⟩

/-- A capture is suppressed exactly when it packs the zero frame with DebounceFlag 0 (41_capture.md R80). -/
theorem captured_ready_eq_false_iff (x y : Reading) (rest : List Reading) (s : State) :
    (captured x y rest s).ready = false ↔ pack x y = 0 ∧ s.debounceFlag = false := by
  simp [captured, nonZero_eq_decide]

/-- Otherwise it is reported: a touch, or the release after one. -/
theorem captured_ready_eq_true_iff (x y : Reading) (rest : List Reading) (s : State) :
    (captured x y rest s).ready = true ↔ pack x y ≠ 0 ∨ s.debounceFlag = true := by
  rw [← Bool.not_eq_false, captured_ready_eq_false_iff, not_and_or, Bool.not_eq_false]

/-- A suppressed capture leaves the flag and the counter as they were (41_capture.md R73). -/
theorem captured_of_suppressed {x y : Reading} (rest : List Reading) {s : State}
    (h : pack x y = 0 ∧ s.debounceFlag = false) :
    captured x y rest s = { s with
      checksum := false, rawFrame := 0, ready := false, sampleX := x, sampleY := y, adcAnswers := rest,
      dataDir := .out, panelCfg := .idle, adcEnabled := false,
      trace := s.trace ++ (sampleEvents .x x s.dataLevel ++ sampleEvents .y y s.dataLevel) } := by
  obtain ⟨hzero, hflag⟩ := h
  have hnz : nonZero 0#24 = false := by decide
  simp [captured, hzero, hflag, hnz]

/-- What follows a reported capture, as one record update (43_link.md R101). -/
theorem readyOp_eq (c : Bool) (s : State) :
    readyOp c s = { s with
      dataDir := .out, dataLevel := true, linkState := .transmitting, lastClockLevel := c,
      trace := s.trace ++ [.dataDrive true] } := rfl

/-- The counter a reported capture leaves (41_capture.md R74, R75). -/
theorem captured_txCounter_of_ready {x y : Reading} {rest : List Reading} {s : State}
    (h : (captured x y rest s).ready = true) : (captured x y rest s).txCounter = 0 :=
  if_pos h

/-- Settles O31: a completed capture of two zero readings with the flag at 0. -/
theorem suppressedCaptureStaysCapturing : Obligations.SuppressedCaptureStaysCapturing := by
  intro s rest hf ha
  rw [exec_lnkSupp, captureThen_answered s id ha, id, captured_of_suppressed rest ⟨by decide, hf⟩]

/-- Settles O32: a reported capture, then the ready level. -/
theorem readyEntersTransmitting : Obligations.ReadyEntersTransmitting := by
  intro s x y rest ha hreported
  have hready : (nonZero (pack x y) || s.debounceFlag) = true := (captured_ready_eq_true_iff x y rest s).2 hreported
  rw [exec_lnkReady, captureThen_answered s _ ha, readyOp_eq, ← nonZero_eq_decide]
  simp [captured, hready]

/-- Settles O33: below 20 the arm is the write of the level and TX.BIT. -/
theorem bitArmSendsOnePayloadBit : Obligations.BitArmSendsOnePayloadBit := fun s c h => by
  rw [exec_lnkBit, txStepOp_bit { s with lastClockLevel := c } h, txBitOp_eq { s with lastClockLevel := c } h]

/-- Settles O34: at 20 the arm is TX.CHK, then GO_INACTIVE. -/
theorem lastArmSendsTheChecksum : Obligations.LastArmSendsTheChecksum := fun s c h => by
  rw [exec_lnkLast, txStepOp_chk { s with lastClockLevel := c } h, goInactiveOp_eq, txChkOp_eq]
  simp

/-! ### The selected arm (43_link.md R96) -/

theorem selectorOf_selectedArm (l : LinkState) (c e r t : Bool) : selectorOf (selectedArm l c e r t) = .lnk := by
  cases l <;> revert c e r t <;> decide

/-- What a LINK_STEP fetches is an arm of the format LNK. -/
theorem selectorOf_fetch {s : State} {i : Instr} (h : fetch s = .ok i) : selectorOf i = .lnk := by
  obtain ⟨e, r, t, hw⟩ := dispatchWord_starts_with_state_and_clock s
  rw [fetch, hw, decode_dispatchBits] at h
  obtain rfl := Except.ok.inj h
  exact selectorOf_selectedArm s.linkState s.clk e r t

/-- Settles O36: the fetched arm does what the text of LINK_STEP does. -/
theorem linkStepIsItsSelectedArm : Obligations.LinkStepIsItsSelectedArm := by
  intro s
  obtain ⟨i, hfetch, hperforms⟩ := fetch_performs_linkStep s
  exact ⟨i, hfetch, selectorOf_fetch hfetch, hperforms⟩

/-- A fetched arm that completes leaves the state LINK_STEP leaves. -/
theorem eq_linkStepOp_of_fetch {s t : State} {i : Instr} (hfetch : fetch s = .ok i) (hexec : exec i s = .next t) :
    t = linkStepOp s := by
  obtain ⟨j, hj, hperforms⟩ := fetch_performs_linkStep s
  obtain rfl := Except.ok.inj (hfetch.symm.trans hj)
  exact Host.Outcome.next.inj (hexec.symm.trans hperforms)

/-! ### The core's turn (43_link.md R107, R108) -/

/-- Settles O38: WAIT with a wake pending and without. -/
theorem waitReturnsOnAWake : Obligations.WaitReturnsOnAWake := fun s =>
  ⟨fun h => by rw [exec_wait, waitOp_wake s h], fun h => by rw [exec_wait, waitOp_sleep s h]⟩

/-- A scheduled turn of the core is its next operation. -/
theorem step_core (s : State) : step { s with schedule := .core :: s.schedule } = .next (coreMove s) := step_eq _

/-- With nothing scheduled the core moves (log 8). -/
theorem step_unscheduled {s : State} (h : s.schedule = []) : step s = .next (coreMove s) := by
  have hs : { s with schedule := [] } = s := by rw [← h]
  rw [step_eq, h]
  exact congrArg (fun u => Host.Outcome.next (coreMove u)) hs

/-- Settles O42: the core's move is the fetched arm, which is LINK_STEP, and then the end of the step. -/
theorem stepRunsTheFetchedArm : Obligations.StepRunsTheFetchedArm := by
  intro s i t hrun hfetch hexec
  have hmove : coreMove s = endStep t := by
    rw [coreMove_running s hrun, ← eq_linkStepOp_of_fetch hfetch hexec]
  exact ⟨by rw [step_core, hmove], fun hs => by rw [step_unscheduled hs, hmove], endStep_returned t,
    fun _ => endStep_blocked t⟩

/-- A core asleep with no wake pending does not move (43_link.md R107). -/
theorem coreMove_asleep {s : State} (ha : s.activity = .lowPowerWait) (hw : s.wakePending = false) :
    coreMove s = s := by
  rw [coreMove_wait s ha, waitOp_sleep s hw, ← ha]

/-- Settles O43: the core's move in the wait is WAIT, and without a wake it is none. -/
theorem stepInTheWait : Obligations.StepInTheWait := by
  refine fun s ha => ⟨fun hw => ?_, fun hw => ?_, fun hw hs => ?_⟩
  · rw [step_core, coreMove_wait s ha, waitOp_wake s hw]
  · rw [step_core, coreMove_asleep ha hw]
  · rw [step_unscheduled hs, coreMove_asleep ha hw]

/-! ### The transitions (43_link.md R109) -/

/-- LINK_STEP in `Capturing` with the clock high and both conversions answered. -/
theorem linkStepOp_captured {s : State} {x y : Reading} {rest : List Reading} (hl : s.linkState = .capturing)
    (hc : s.clk = true) (ha : s.adcAnswers = x :: y :: rest) :
    linkStepOp s =
      if (captured x y rest s).ready then readyOp true (captured x y rest s) else captured x y rest s := by
  rw [linkStepOp_capturing s hl, if_pos hc, captureThen_answered s _ ha, hc]

/-- LINK_STEP in `Transmitting` with the clock where it was: a stall. -/
theorem linkStepOp_stall {s : State} (hl : s.linkState = .transmitting) (he : s.clk = s.lastClockLevel) :
    linkStepOp s = goInactiveOp s := by
  rw [linkStepOp_transmitting s hl, if_neg (by simp [edgeBit, he])]

/-- LINK_STEP in `Transmitting` on a clock change below 20: one payload bit. -/
theorem linkStepOp_bit {s : State} (hl : s.linkState = .transmitting) (he : s.clk ≠ s.lastClockLevel)
    (hn : s.txCounter.val < 20) : linkStepOp s = txBitOp { s with lastClockLevel := s.clk } := by
  rw [linkStepOp_transmitting s hl, if_pos (by simpa [edgeBit] using he),
    txStepOp_bit { s with lastClockLevel := s.clk } hn, txBitOp_final, if_neg Bool.false_ne_true]

/-- LINK_STEP in `Transmitting` on a clock change at 20: the checksum, then the idle level. -/
theorem linkStepOp_last {s : State} (hl : s.linkState = .transmitting) (he : s.clk ≠ s.lastClockLevel)
    (hn : s.txCounter = 20) : linkStepOp s = goInactiveOp (txChkOp { s with lastClockLevel := s.clk }) := by
  rw [linkStepOp_transmitting s hl, if_pos (by simpa [edgeBit] using he),
    txStepOp_chk { s with lastClockLevel := s.clk } hn, txChkOp_final, if_pos rfl]

/-- Settles O37, row by row. -/
theorem transitionTable : Obligations.TransitionTable := by
  refine fun s hquiet => ⟨fun hl hc => ?idle, fun hl hc => ?arm, fun hl hc => ?abort,
    fun x y rest hl hc ha hsupp => ?supp, fun x y rest hl hc ha hrep => ?ready, fun hl he => ?stall,
    fun hl he hn => ?bit, fun hl he hn => ?last⟩
  case idle => simp [linkStepOp_inactive s hl, hc]
  case arm => simp [linkStepOp_inactive s hl, hc]
  case abort => exact ⟨_, by simp [linkStepOp_capturing s hl, hc], exec_goInactive s, rfl, rfl⟩
  case supp =>
    have hready := (captured_ready_eq_false_iff x y rest s).2 hsupp
    exact ⟨captured x y rest s, by simp [linkStepOp_captured hl hc ha, hready], exec_capture_answered s ha, hl,
      hquiet (by simp [hl])⟩
  case ready =>
    have hready : (captured x y rest s).ready = true := by
      rw [← Bool.not_eq_false, captured_ready_eq_false_iff]
      exact hrep
    exact ⟨readyOp true (captured x y rest s), captured x y rest s, by simp [linkStepOp_captured hl hc ha, hready],
      exec_capture_answered s ha, rfl⟩
  case stall => exact ⟨_, by rw [exec_linkStep, linkStepOp_stall hl he], exec_goInactive s, rfl, rfl⟩
  case bit =>
    exact ⟨_, by rw [exec_linkStep, linkStepOp_bit hl he hn], exec_txBit _, hl, rfl⟩
  case last =>
    refine ⟨goInactiveOp (txChkOp { s with lastClockLevel := s.clk }),
      by rw [exec_linkStep, linkStepOp_last hl he (Fin.ext hn)], rfl, rfl, ?_, rfl, rfl, rfl, rfl, rfl⟩
    simp

/-- The bit `r` of a capture that never returns is 0 (30_encoding.md R52, 40_sampler.md R64). -/
theorem captureResult_unanswered {s : State} (h : s.adcAnswers.length < 2) : captureResult s = false := by
  match hs : s.adcAnswers with
  | [] => rw [captureResult, captureThen_silent { s with ready := false } id hs]
  | [x] => rw [captureResult, captureThen_half { s with ready := false } id hs]
  | x :: y :: rest =>
    simp only [hs, List.length_cons] at h
    omega

/-- From `Inactive` a LINK_STEP arms the link or leaves it alone. -/
theorem linkStepOp_linkState_of_inactive {s : State} (hl : s.linkState = .inactive) :
    (linkStepOp s).linkState ≠ .transmitting := by
  rw [linkStepOp_inactive s hl]
  split <;> simp [hl]

/-- From `Transmitting` a LINK_STEP goes on or ends the exchange. -/
theorem linkStepOp_linkState_of_transmitting {s : State} (hl : s.linkState = .transmitting) :
    (linkStepOp s).linkState ≠ .capturing := by
  rw [linkStepOp_transmitting s hl]
  split
  · split
    · simp
    · simp [txStepOp_linkState, hl]
  · simp

/-- A LINK_STEP that stays in `Capturing` is a capture that returned 0 or never returned, and so LNK.SUPP, whatever is
scheduled. -/
theorem fetch_of_stays_capturing {s : State} {turns : List Turn} (hl : s.linkState = .capturing)
    (hstays : (linkStepOp { s with schedule := turns }).linkState = .capturing) : fetch s = .ok .lnkSupp := by
  have hw := linkStepOp_capturing { s with schedule := turns } hl
  cases hc : s.clk with
  | false =>
    rw [hw] at hstays
    simp [hc] at hstays
  | true =>
    have hr : captureResult s = false := by
      match ha : s.adcAnswers with
      | [] | [_] => exact captureResult_unanswered (by simp [ha])
      | x :: y :: rest =>
        rw [captureResult_answered s ha]
        cases hr : (captured x y rest s).ready with
        | false => rfl
        | true =>
          have hr' : (captured x y rest { s with schedule := turns }).ready = true := hr
          simp [linkStepOp_captured (s := { s with schedule := turns }) hl hc ha, hr'] at hstays
    simp [fetch_capturing s hl, hc, hr]

/-- A move of the core keeps the link state or is a LINK_STEP's. -/
theorem coreMove_linkState (s : State) :
    (coreMove s).linkState = s.linkState ∨ (coreMove s).linkState = (linkStepOp s).linkState := by
  cases ha : s.activity with
  | blocked a => exact .inl (by rw [coreMove_blocked s ha])
  | lowPowerWait => exact .inl (by rw [coreMove_wait s ha, (keepsOwned_waitOp s).link])
  | running => exact .inr (by rw [coreMove_running s ha, (keepsOwned_endStep _).link])

/-- A turn of any agent keeps the link state, is POR, or is a LINK_STEP's. -/
theorem turnOp_linkState (t : Turn) (s : State) :
    (turnOp t s).linkState = s.linkState ∨ (turnOp t s).linkState = .inactive ∨
      (turnOp t s).linkState = (linkStepOp s).linkState := by
  cases t with
  | core => exact (coreMove_linkState s).imp_right .inr
  | clk level => exact .inl rfl
  | wake => exact .inl rfl
  | por k => exact .inr (.inl rfl)

/-- Settles O52: what a turn can do to the link state, and LINK_STEP from each. -/
theorem noForbiddenTransition : Obligations.NoForbiddenTransition := by
  intro s t hstep
  have ht := step_next hstep
  have hturn := turnOp_linkState (s.schedule.headD .core) { s with schedule := s.schedule.tail }
  rw [← ht] at hturn
  refine ⟨fun ⟨hs, htx⟩ => ?_, fun ⟨hs, hcap⟩ => ?_, fun hs hcap hrun hcore => ?_⟩
  · obtain h | h | h := hturn
    · simp [htx, hs] at h
    · simp [htx] at h
    · exact linkStepOp_linkState_of_inactive (s := { s with schedule := s.schedule.tail }) hs (h.symm.trans htx)
  · obtain h | h | h := hturn
    · simp [hcap, hs] at h
    · simp [hcap] at h
    · exact linkStepOp_linkState_of_transmitting (s := { s with schedule := s.schedule.tail }) hs (h.symm.trans hcap)
  · have hhead : s.schedule.headD .core = .core := by
      obtain h | ⟨rest, h⟩ := hcore <;> simp [h]
    rw [ht, hhead, turnOp, coreMove_running { s with schedule := s.schedule.tail } hrun,
      (keepsOwned_endStep _).link] at hcap
    exact fetch_of_stays_capturing hs hcap

end Sys2Proof.Machine
end

section
/-! Runs of the machine as turns, and RUN (43_link.md R108): a turn at a time to the end of the schedule, and then to
where the core sleeps or is stuck. -/

namespace Sys2Proof.Machine

/-! ### Runs, turn by turn (20_memory.md R32) -/

/-- A run of any machine begins with a step. -/
theorem coreRun_succ (M : Host.Core) {s t : M.State} (h : M.step s = .next t) (n : Nat) :
    M.run (n + 1) s = M.run n t := by
  rw [Host.Core.run, h]

theorem run_succ_of_step {s t : State} (h : step s = .next t) (n : Nat) : core.run (n + 1) s = core.run n t :=
  coreRun_succ core h n

/-- The step is the turn the schedule names. -/
theorem run_succ (n : Nat) (s : State) :
    core.run (n + 1) s = core.run n (turnOp (s.schedule.headD .core) { s with schedule := s.schedule.tail }) :=
  run_succ_of_step (step_eq s) n

/-- With nothing scheduled it is the core's move. -/
theorem run_succ_unscheduled (n : Nat) {s : State} (h : s.schedule = []) :
    core.run (n + 1) s = core.run n (coreMove s) :=
  run_succ_of_step (step_unscheduled h) n

/-- A run goes on from where its first part ended. -/
theorem run_add {m : Nat} {s t : State} (h : core.run m s = .next t) (n : Nat) : core.run (m + n) s = core.run n t := by
  induction m generalizing s with
  | zero =>
    obtain rfl : s = t := Host.Outcome.next.inj h
    rw [Nat.zero_add]
  | succ m ih =>
    rw [run_succ] at h
    rw [Nat.succ_add, run_succ]
    exact ih h

/-! ### What the core's operations leave of its inputs and of the schedule -/

/-- Two states with the same clock level, wake latch and schedule, and the core running in both or in neither, unless it
is stuck in the second. -/
structure KeepsInputs (s t : State) : Prop where
  clk : t.clk = s.clk
  schedule : t.schedule = s.schedule
  wake : t.wakePending = s.wakePending
  activity : t.activity = s.activity ∨ ∃ a, t.activity = .blocked a

theorem keepsInputs_rfl (s : State) : KeepsInputs s s := ⟨rfl, rfl, rfl, .inl rfl⟩

theorem keepsInputs_captureThen {s : State} {k : State → State} (hk : ∀ u, KeepsInputs u (k u)) :
    KeepsInputs s (captureThen s k) := by
  obtain ⟨x, y, rest, -, h⟩ | ⟨a, x, out, h⟩ := captureThen_cases s k <;> rw [h]
  · obtain ⟨hc, hs, hw, ha⟩ := hk (captured x y rest s)
    exact ⟨hc, hs, hw, ha⟩
  · exact ⟨rfl, rfl, rfl, .inr ⟨a, rfl⟩⟩

theorem keepsInputs_linkStepOp (s : State) : KeepsInputs s (linkStepOp s) := by
  obtain ⟨-, -, hw⟩ | ⟨-, -, hw⟩ | ⟨-, -, hw⟩ | ⟨-, -, hw⟩ | ⟨-, -, hw⟩ | ⟨-, -, -, hw⟩ | ⟨-, -, -, hw⟩ :=
    linkStepOp_cases s <;> rw [hw]
  case inr.inr.inr.inl =>
    refine keepsInputs_captureThen fun u => ?_
    split
    · exact ⟨rfl, rfl, rfl, .inl rfl⟩
    · exact keepsInputs_rfl u
  all_goals exact ⟨rfl, rfl, rfl, .inl rfl⟩

@[simp] theorem endStep_clk (s : State) : (endStep s).clk = s.clk := by
  unfold endStep
  split <;> rfl

@[simp] theorem endStep_schedule (s : State) : (endStep s).schedule = s.schedule := by
  unfold endStep
  split <;> rfl

@[simp] theorem waitOp_schedule (s : State) : (waitOp s).schedule = s.schedule := by
  unfold waitOp
  split <;> rfl

theorem coreMove_schedule (s : State) : (coreMove s).schedule = s.schedule := by
  cases ha : s.activity with
  | blocked a => rw [coreMove_blocked s ha]
  | lowPowerWait => rw [coreMove_wait s ha, waitOp_schedule]
  | running => rw [coreMove_running s ha, endStep_schedule, (keepsInputs_linkStepOp s).schedule]

theorem turnOp_schedule (t : Turn) (s : State) : (turnOp t s).schedule = s.schedule := by
  cases t with
  | core => exact coreMove_schedule s
  | clk level => rfl
  | wake => rfl
  | por k => rfl

/-! ### Where the core comes to rest (43_link.md R107, R108) -/

/-- The core does not move any more: it sleeps with no wake pending, or is stuck in a sample. -/
def AtRest (s : State) : Prop :=
  s.activity = .lowPowerWait ∧ s.wakePending = false ∨ ∃ a, s.activity = .blocked a

theorem AtRest.coreMove_eq {s : State} (h : AtRest s) : coreMove s = s := by
  obtain ⟨ha, hw⟩ | ⟨a, ha⟩ := h
  · exact coreMove_asleep ha hw
  · exact coreMove_blocked s ha

/-- How many moves the core makes with no further wake, at most: a LINK_STEP under way, and where a wake is pending a
WAIT that returns at once and its LINK_STEP. -/
def movesLeft (s : State) : Nat :=
  match s.activity with
  | .blocked _ => 0
  | .lowPowerWait => if s.wakePending then 2 else 0
  | .running => if s.wakePending then 3 else 1

theorem movesLeft_le_three (s : State) : movesLeft s ≤ 3 := by
  unfold movesLeft
  split
  · omega
  · split <;> omega
  · split <;> omega

theorem atRest_of_movesLeft_eq_zero {s : State} (h : movesLeft s = 0) : AtRest s := by
  cases ha : s.activity with
  | blocked a => exact .inr ⟨a, ha⟩
  | lowPowerWait => exact .inl ⟨ha, by simpa [movesLeft, ha] using h⟩
  | running => cases hw : s.wakePending <;> simp [movesLeft, ha, hw] at h

/-- The end of a LINK_STEP leaves a WAIT and a LINK_STEP to be performed only where a wake is pending. -/
theorem movesLeft_endStep (s : State) : movesLeft (endStep s) ≤ if s.wakePending then 2 else 0 := by
  cases ha : s.activity with
  | blocked a => simp [endStep_blocked s ha, movesLeft, ha]
  | lowPowerWait | running => rw [endStep_returned s (by simp [ha])]; rfl

/-- Every move is one of those left. -/
theorem movesLeft_coreMove (s : State) : movesLeft (coreMove s) ≤ movesLeft s - 1 := by
  cases ha : s.activity with
  | blocked a => simp [coreMove_blocked s ha, movesLeft, ha]
  | lowPowerWait =>
    rw [coreMove_wait s ha]
    cases hw : s.wakePending with
    | false => simp [waitOp_sleep s hw, movesLeft, hw]
    | true => simp [waitOp_wake s hw, movesLeft, ha, hw]
  | running =>
    have hend := movesLeft_endStep (linkStepOp s)
    rw [(keepsInputs_linkStepOp s).wake] at hend
    rw [coreMove_running s ha]
    cases hw : s.wakePending <;> simpa [movesLeft, ha, hw] using hend

/-- Three moves with no further wake bring the core to rest. -/
theorem atRest_after_three_moves (s : State) : AtRest (coreMove (coreMove (coreMove s))) := by
  have h1 := movesLeft_coreMove s
  have h2 := movesLeft_coreMove (coreMove s)
  have h3 := movesLeft_coreMove (coreMove (coreMove s))
  have h := movesLeft_le_three s
  exact atRest_of_movesLeft_eq_zero (by omega)

/-! ### RUN (43_link.md R108) -/

/-- The loop of RUN is a run of the machine: a step for each scheduled turn and three more. -/
theorem run_eq_loopOp (ts : List Turn) (s : State) (h : s.schedule = ts) :
    core.run (ts.length + 3) s = .next (loopOp ts s) := by
  induction ts generalizing s with
  | nil =>
    have hs : { s with schedule := [] } = s := by rw [← h]
    have h1 : (coreMove s).schedule = [] := (coreMove_schedule s).trans h
    have h2 : (coreMove (coreMove s)).schedule = [] := (coreMove_schedule _).trans h1
    rw [loopOp, hs]
    calc core.run 3 s = core.run 2 (coreMove s) := run_succ_unscheduled 2 h
      _ = core.run 1 (coreMove (coreMove s)) := run_succ_unscheduled 1 h1
      _ = core.run 0 (coreMove (coreMove (coreMove s))) := run_succ_unscheduled 0 h2
  | cons t ts ih =>
    rw [List.length_cons, Nat.succ_add, run_succ, h]
    exact ih _ (turnOp_schedule t { s with schedule := ts })

/-- The loop uses up the schedule and ends with the core at rest. -/
theorem loopOp_ends (ts : List Turn) (s : State) : (loopOp ts s).schedule = [] ∧ AtRest (loopOp ts s) := by
  induction ts generalizing s with
  | nil =>
    refine ⟨?_, atRest_after_three_moves { s with schedule := [] }⟩
    simp only [loopOp, coreMove_schedule]
  | cons t ts ih => exact ih _

/-- Settles O41: RUN's loop is a run of the machine, and ends where the core rests with nothing scheduled. -/
theorem runIsPowerOnThenSteps : Obligations.RunIsPowerOnThenSteps := by
  intro s
  obtain ⟨hschedule, hrest⟩ := loopOp_ends s.schedule (powerOnOp s)
  refine ⟨powerOnOp s, loopOp s.schedule (powerOnOp s), rfl, rfl, run_eq_loopOp _ _ rfl, hschedule, hrest, ?_⟩
  rw [step_unscheduled hschedule, hrest.coreMove_eq]

end Sys2Proof.Machine
end

section
/-! Scripts (30_encoding.md R58): the clock changes of an exchange (43_link.md R110), a complete exchange (R112), and
changes that no step reads between (R113). -/

namespace Sys2Proof.Machine

open Sys2Proof.Safety

/-! ### A wake and the LINK_STEP it causes -/

/-- The state a LINK_STEP leaves that starts right after the wait returned, with `rest` still scheduled. -/
def servedWake (rest : List Turn) (s : State) : State :=
  endStep (linkStepOp { s with wakePending := false, activity := .running, schedule := rest })

/-- Two turns of the core with a wake pending: WAIT returns, then LINK_STEP (43_link.md R108). -/
theorem run_core_core {s : State} {rest : List Turn} (ha : s.activity = .lowPowerWait) (hw : s.wakePending = true)
    (hs : s.schedule = .core :: .core :: rest) (n : Nat) : core.run (n + 2) s = core.run n (servedWake rest s) := by
  rw [run_succ, hs, List.headD_cons, List.tail_cons, turnOp, coreMove_wait _ (by exact ha),
    waitOp_wake _ (by exact hw), run_succ, List.headD_cons, List.tail_cons, turnOp, coreMove_running _ rfl, servedWake]

/-- The LINK_STEP leaves the clock line as it was. -/
theorem servedWake_clk (rest : List Turn) (s : State) : (servedWake rest s).clk = s.clk := by
  rw [servedWake, endStep_clk, (keepsInputs_linkStepOp _).clk]

theorem servedWake_schedule (rest : List Turn) (s : State) : (servedWake rest s).schedule = rest := by
  rw [servedWake, endStep_schedule, (keepsInputs_linkStepOp _).schedule]

/-- A change of the clock line, taken by one LINK_STEP (20_memory.md R40). -/
theorem run_edge {s : State} {level : Bool} {rest : List Turn} (ha : s.activity = .lowPowerWait) (hl : level ≠ s.clk)
    (hs : s.schedule = .clk level :: .core :: .core :: rest) (n : Nat) :
    core.run (n + 3) s = core.run n (servedWake rest { s with clk := level }) := by
  rw [run_succ, hs]
  exact run_core_core (s := clkTurn level { s with schedule := .core :: .core :: rest }) ha (by simp [clkTurn, hl])
    rfl n

/-- Another wake, taken by one LINK_STEP (60_exceptions.md R126). -/
theorem run_wake {s : State} {rest : List Turn} (ha : s.activity = .lowPowerWait)
    (hs : s.schedule = .wake :: .core :: .core :: rest) (n : Nat) :
    core.run (n + 3) s = core.run n (servedWake rest s) := by
  rw [run_succ, hs]
  exact run_core_core (s := wakeTurn { s with schedule := .core :: .core :: rest }) ha rfl rfl n

/-! ### The clock changes of an exchange (43_link.md R110) -/

/-- How far an exchange has come in `t` after `k` clock changes from `s`, where the ready level had just been driven:
one bit sent for each, the clock alternating from high. Where the checksum was clear, they are the first bits of the
wire frame. -/
structure Exchanging (k : Nat) (s t : State) : Prop where
  link : t.linkState = .transmitting
  waiting : t.activity = .lowPowerWait
  count : t.txCounter.val = k
  last : t.lastClockLevel = t.clk
  clk : t.clk = (k % 2 == 0)
  flag : t.debounceFlag = s.debounceFlag
  answers : t.adcAnswers = s.adcAnswers
  sent : s.checksum = false → Sent k s t

/-- Right after the ready level nothing is sent yet. -/
theorem exchanging_zero {s : State} (hl : s.linkState = .transmitting) (ha : s.activity = .lowPowerWait)
    (hn : s.txCounter = 0) (hlast : s.lastClockLevel = true) (hc : s.clk = true) : Exchanging 0 s s where
  link := hl
  waiting := ha
  count := by rw [hn]; rfl
  last := hlast.trans hc.symm
  clk := hc
  flag := rfl
  answers := rfl
  sent := fun h => sent_zero h hn

/-- Below 20 a LINK_STEP on a clock change is TX.BIT, and WAIT is next. -/
theorem servedWake_bit {t : State} (hl : t.linkState = .transmitting) (he : t.clk ≠ t.lastClockLevel)
    (hn : t.txCounter.val < 20) (rest : List Turn) :
    servedWake rest t = { txBitOp { t with wakePending := false, schedule := rest, lastClockLevel := t.clk } with
      activity := .lowPowerWait } := by
  rw [servedWake, linkStepOp_bit (by exact hl) (by exact he) (by exact hn)]
  exact endStep_returned _ (by simp)

/-- At 20 a LINK_STEP on a clock change is TX.CHK and GO_INACTIVE, and WAIT is next. -/
theorem servedWake_last {t : State} (hl : t.linkState = .transmitting) (he : t.clk ≠ t.lastClockLevel)
    (hn : t.txCounter = 20) (rest : List Turn) :
    servedWake rest t =
      { goInactiveOp (txChkOp { t with wakePending := false, schedule := rest, lastClockLevel := t.clk }) with
        activity := .lowPowerWait } := by
  rw [servedWake, linkStepOp_last (by exact hl) (by exact he) (by exact hn)]
  exact endStep_returned _ (by simp)

/-- A LINK_STEP with the clock where it was is a stall: GO_INACTIVE, and WAIT is next. -/
theorem servedWake_stall {t : State} (hl : t.linkState = .transmitting) (he : t.clk = t.lastClockLevel)
    (rest : List Turn) :
    servedWake rest t = { goInactiveOp { t with wakePending := false, schedule := rest } with
      activity := .lowPowerWait } := by
  rw [servedWake, linkStepOp_stall (by exact hl) (by exact he)]
  exact endStep_returned _ (by simp)

/-- One more clock change below 20 sends one more bit. -/
theorem exchanging_succ {k : Nat} {s t : State} (h : Exchanging k s t) (hk : k < 20) (rest : List Turn) :
    Exchanging (k + 1) s (servedWake rest { t with clk := !t.clk }) := by
  have hn : t.txCounter.val < 20 := h.count.trans_lt hk
  have he : (!t.clk) ≠ t.lastClockLevel := by simp [h.last]
  rw [servedWake_bit (t := { t with clk := !t.clk }) h.link he hn]
  exact {
    link := h.link
    waiting := rfl
    count := (txBitOp_txCounter hn).trans (congrArg (· + 1) h.count)
    last := rfl
    clk := by
      show (!t.clk) = _
      rw [h.clk]
      obtain h | h := Nat.mod_two_eq_zero_or_one k <;> simp [Nat.add_mod, h]
    flag := h.flag
    answers := h.answers
    sent := fun hc => by
      obtain ⟨hcount, hframe, hchecksum, htrace, hfinal⟩ := sent_txBitOp (h.sent hc) hk
      exact ⟨hcount, hframe, hchecksum, htrace, hfinal⟩ }

/-- A number of clock changes sends as many bits, up to twenty in all. -/
theorem run_edges {s : State} {rest : List Turn} (n : Nat) {k : Nat} {t : State} (h : Exchanging k s t)
    (hn : k + n ≤ 20) (hs : t.schedule = edgeTurns n (!t.clk) ++ rest) :
    ∃ u, core.run (3 * n) t = .next u ∧ Exchanging (k + n) s u ∧ u.schedule = rest := by
  induction n generalizing k t with
  | zero => exact ⟨t, rfl, h, hs⟩
  | succ n ih =>
    have hclk := servedWake_clk (edgeTurns n (!!t.clk) ++ rest) { t with clk := !t.clk }
    obtain ⟨u, hrun, hu, hrest⟩ := ih (exchanging_succ h (by omega) (edgeTurns n (!!t.clk) ++ rest)) (by omega)
      (by rw [servedWake_schedule, hclk])
    refine ⟨u, ?_, by rwa [Nat.add_right_comm] at hu, hrest⟩
    exact (run_edge h.waiting (Bool.not_ne_self t.clk) hs (3 * n)).trans hrun

/-- The twenty-first clock change drives the checksum and the idle level, and ends the exchange (43_link.md R105). -/
theorem run_last_edge {s t : State} {rest : List Turn} (h : Exchanging 20 s t)
    (hs : t.schedule = edgeTurns 1 (!t.clk) ++ rest) (n : Nat) :
    core.run (n + 3) t = core.run n
      { goInactiveOp (txChkOp { t with
          clk := false, wakePending := false, schedule := rest, lastClockLevel := false }) with
        activity := .lowPowerWait } := by
  have hc : t.clk = true := h.clk
  rw [hc] at hs
  rw [run_edge (level := false) h.waiting (by simp [hc]) hs,
    servedWake_last (by exact h.link) (by simp [h.last, hc]) (by exact Fin.ext h.count)]
  rfl

/-- Settles O57: up to twenty clock changes send as many bits; the twenty-first ends the exchange. -/
theorem twentyOneEdgesEndTheExchange : Obligations.TwentyOneEdgesEndTheExchange := by
  intro s hl ha hw hn hlast hc
  have hfresh (turns : List Turn) :
      Exchanging 0 { s with schedule := turns } { s with schedule := turns } := exchanging_zero hl ha hn hlast hc
  refine ⟨fun k hk => ?payload, ?ends⟩
  case payload =>
    obtain ⟨t, hrun, ht, -⟩ := run_edges (rest := []) k (hfresh (edgeTurns k false)) (by omega) (by simp [hc])
    exact ⟨t, hrun, ht.link, ht.count.trans (Nat.zero_add k), ht.flag⟩
  case ends =>
    obtain ⟨t, hrun, ht, hrest⟩ := run_edges (rest := edgeTurns 1 false) 20 (hfresh (edgeTurns 21 false)) (by omega)
      (by simp [hc, edgeTurns])
    have hc : t.clk = true := ht.clk
    exact ⟨_, (run_add hrun 3).trans (run_last_edge (rest := []) ht (by simp [hrest, hc]) 0), rfl, rfl, rfl, ht.flag,
      rfl⟩

/-! ### A complete exchange (43_link.md R112) -/

/-- What a reported exchange leaves where its transmission begins, with the clock high and `turns` still scheduled. -/
def readied (x y : Reading) (rest : List Reading) (turns : List Turn) (s : State) : State :=
  { readyOp true (captured x y rest s) with
    clk := true, wakePending := false, activity := .lowPowerWait, schedule := turns }

/-- In `Inactive` with the clock high a LINK_STEP is LNK.ARM, and WAIT is next. -/
theorem servedWake_arm {t : State} (hl : t.linkState = .inactive) (hc : t.clk = true) (turns : List Turn) :
    servedWake turns t = { t with
      linkState := .capturing, wakePending := false, activity := .lowPowerWait, schedule := turns } := by
  rw [servedWake, linkStepOp_inactive _ (by exact hl), if_pos (by exact hc)]
  exact endStep_returned _ (by simp)

/-- In `Capturing` with the clock high and readings that are reported it is LNK.READY, and WAIT is next. -/
theorem servedWake_ready {t : State} {x y : Reading} {rest : List Reading} (hl : t.linkState = .capturing)
    (hc : t.clk = true) (ha : t.adcAnswers = x :: y :: rest) (hr : pack x y ≠ 0 ∨ t.debounceFlag = true)
    (turns : List Turn) :
    servedWake turns t =
      { readyOp true (captured x y rest { t with wakePending := false, activity := .running, schedule := turns }) with
        activity := .lowPowerWait } := by
  rw [servedWake, linkStepOp_captured (by exact hl) (by exact hc) (by exact ha),
    if_pos ((captured_ready_eq_true_iff x y rest _).2 (by exact hr))]
  exact endStep_returned _ (by simp [captured])

/-- The clock goes high and arms the link; another wake, and the capture is reported (43_link.md R98, R101). -/
theorem run_to_ready {s : State} {x y : Reading} {rest : List Reading} {turns : List Turn}
    (hl : s.linkState = .inactive) (hw : s.activity = .lowPowerWait) (hc : s.clk = false)
    (ha : s.adcAnswers = x :: y :: rest) (hr : pack x y ≠ 0 ∨ s.debounceFlag = true)
    (hs : s.schedule = .clk true :: .core :: .core :: .wake :: .core :: .core :: turns) (n : Nat) :
    core.run (n + 6) s = core.run n (readied x y rest turns s) := by
  rw [run_edge (n := n + 3) (level := true) hw (by simp [hc]) hs, servedWake_arm (by exact hl) rfl, run_wake rfl rfl,
    servedWake_ready rfl rfl (by exact ha) (by exact hr)]
  rfl

/-- The transmission begins with a fresh frame. -/
theorem exchanging_readied {x y : Reading} (rest : List Reading) (turns : List Turn) {s : State}
    (hr : pack x y ≠ 0 ∨ s.debounceFlag = true) :
    Exchanging 0 (readied x y rest turns s) (readied x y rest turns s) :=
  exchanging_zero rfl rfl (captured_txCounter_of_ready ((captured_ready_eq_true_iff x y rest s).2 hr)) rfl rfl

/-- The twenty payload bits shifted out of a packed frame leave nothing in it (30_encoding.md R46). -/
theorem pack_shift_all (x y : Reading) : pack x y <<< 20 = 0 := by
  apply BitVec.eq_of_getLsbD_eq
  intro k hk
  rw [pack_shift_getLsbD_low x y 20 hk]
  exact BitVec.getLsbD_zero.symm

/-- Settles O58: the ready level, twenty clock changes that send the payload, and one that ends the exchange. -/
theorem completeExchangeTrace : Obligations.CompleteExchangeTrace := by
  intro s x y rest hl hw hd _ hc ha hr hs
  obtain ⟨t, hrun, ht, hrest⟩ := run_edges (rest := edgeTurns 1 false) 20
    (exchanging_readied rest (edgeTurns 21 false) hr) (by omega) rfl
  have hclk : t.clk = true := ht.clk
  have hsent := ht.sent rfl
  have hlast := run_last_edge (rest := []) ht (by simp [hrest, hclk]) 0
  refine ⟨_, (run_to_ready hl hw hc ha hr hs 63).trans ((run_add hrun 3).trans hlast), ?trace, rfl, ?flag, ?frame,
    ht.answers, rfl⟩
  case trace =>
    have htrace := txChkOp_trace_of_sent hsent
    calc (txChkOp t).trace ++ [.dataDrive false]
        = s.trace ++ (sampleEvents .x x s.dataLevel ++ sampleEvents .y y s.dataLevel) ++ [.dataDrive true] ++
            drives (wireBits (pack x y)) ++ [.dataDrive false] := by rw [htrace]; rfl
      _ = _ := by simp [hd, drives]
  case flag =>
    rw [← nonZero_eq_decide]
    exact ht.flag
  case frame =>
    rw [← pack_shift_all x y]
    exact hsent.frame

/-! ### Clock changes that no step reads between (43_link.md R113) -/

/-- They leave the line at the level their number's parity gives, and a wake pending if there are any. -/
theorem run_toggles (n : Nat) {m : Nat} {s : State} {rest : List Turn} (hs : s.schedule = toggles n s.clk ++ rest) :
    core.run (m + n) s = core.run m { s with
      clk := s.clk ^^ (n % 2 == 1), wakePending := s.wakePending || decide (1 ≤ n), schedule := rest } := by
  induction n generalizing s with
  | zero =>
    obtain rfl : s.schedule = rest := hs
    simp
  | succ n ih =>
    have hparity : ((n + 1) % 2 == 1) = !(n % 2 == 1) := by
      obtain h | h := Nat.mod_two_eq_zero_or_one n <;> simp [Nat.add_mod, h]
    rw [← Nat.add_assoc, run_succ, hs, toggles, List.cons_append, List.headD_cons, List.tail_cons, turnOp,
      ih (s := clkTurn (!s.clk) { s with schedule := toggles n (!s.clk) ++ rest }) rfl]
    simp [clkTurn, hparity]

/-- Settles O59: the changes wake the core once, and its LINK_STEP finds the clock where their parity has left it. -/
theorem onlyParityOfEdgesIsSeen : Obligations.OnlyParityOfEdgesIsSeen := by
  intro s n hl ha hc hn h1 hs
  have hserved := run_core_core (rest := []) (s := { s with
    clk := s.clk ^^ (n % 2 == 1), wakePending := s.wakePending || decide (1 ≤ n), schedule := [.core, .core] })
    ha (by simp [h1]) rfl 0
  rw [Nat.add_comm]
  refine ⟨_, (run_toggles n hs).trans hserved, fun heven => ?stall, fun hodd => ?bit⟩
  case stall =>
    rw [servedWake_stall (by exact hl) (by simp [hc, heven])]
    exact ⟨rfl, rfl⟩
  case bit =>
    rw [servedWake_bit (by exact hl) (by simp [hc, hodd]) (by exact hn)]
    exact ⟨hl, txBitOp_txCounter (by exact hn), rfl⟩

end Sys2Proof.Machine
end

section
/-! No fault and no refusal (60_exceptions.md R120, 70_reset_and_hazards.md R155), and the abort entry
(60_exceptions.md R128 to R130). -/

namespace Sys2Proof.Machine

/-! ### The operations of the sampler, the debounce and the machine, each by its equation -/

@[simp] theorem exec_pack (s : State) : exec .pack s = .next (packOp s) := rfl

@[simp] theorem exec_debSuppress (s : State) : exec .debSuppress s = .next (debSuppressOp s) := rfl

@[simp] theorem exec_debRelease (s : State) : exec .debRelease s = .next (debReleaseOp s) := rfl

@[simp] theorem exec_debTouch (s : State) : exec .debTouch s = .next (debTouchOp s) := rfl

@[simp] theorem exec_sampleX (s : State) : exec .sampleX s = .next (sampleThen .x s id) := rfl

@[simp] theorem exec_sampleY (s : State) : exec .sampleY s = .next (sampleThen .y s id) := rfl

@[simp] theorem exec_capture (s : State) : exec .capture s = .next (captureThen s id) := rfl

@[simp] theorem exec_powerOn (s : State) : exec .powerOn s = .next (powerOnOp s) := rfl

@[simp] theorem exec_run (s : State) : exec .run s = .next (runOp s) := rfl

/-! ### Nothing stops -/

/-- Every operation completes, also one whose conversion is never answered: its next state is the stuck core
(40_sampler.md R64), not a fault. -/
theorem exec_completes (i : Instr) (s : State) : ∃ t, exec i s = .next t := by
  cases i with
  | lnkIdle => exact ⟨_, exec_lnkIdle s⟩
  | lnkArm => exact ⟨_, exec_lnkArm s⟩
  | lnkAbort => exact ⟨_, exec_lnkAbort s⟩
  | lnkSupp => exact ⟨_, exec_lnkSupp s⟩
  | lnkReady => exact ⟨_, exec_lnkReady s⟩
  | lnkStall c => exact ⟨_, exec_lnkStall c s⟩
  | lnkBit c => exact ⟨_, exec_lnkBit c s⟩
  | lnkLast c => exact ⟨_, exec_lnkLast c s⟩
  | txBit => exact ⟨_, exec_txBit s⟩
  | txChk => exact ⟨_, exec_txChk s⟩
  | debSuppress => exact ⟨_, exec_debSuppress s⟩
  | debRelease => exact ⟨_, exec_debRelease s⟩
  | debTouch => exact ⟨_, exec_debTouch s⟩
  | sampleX => exact ⟨_, exec_sampleX s⟩
  | sampleY => exact ⟨_, exec_sampleY s⟩
  | pack => exact ⟨_, exec_pack s⟩
  | capture => exact ⟨_, exec_capture s⟩
  | txstep => exact ⟨_, exec_txstep s⟩
  | goInactive => exact ⟨_, exec_goInactive s⟩
  | linkStep => exact ⟨_, exec_linkStep s⟩
  | wait => exact ⟨_, exec_wait s⟩
  | powerOn => exact ⟨_, exec_powerOn s⟩
  | run => exact ⟨_, exec_run s⟩
  | rawFrame x y => exact ⟨_, exec_rawFrame x y s⟩
  | wireFrame x y k => exact ⟨_, exec_wireFrame x y k s⟩

/-- Settles O48: every operation completes, and a step is a turn: the dispatch word it fetches always decodes
(`fetch_performs_linkStep`, behind `step_eq`), so the one refusal of the machine is never raised. -/
theorem nothingEverStops : Obligations.NothingEverStops :=
  ⟨exec_completes, fun s => ⟨_, step_eq s⟩⟩

/-! ### The abort entry -/

/-- Settles O35: the fields GO_INACTIVE leaves do not depend on the state, or are the state's own; a second one only
drives the idle level again. -/
theorem abortIdempotence : Obligations.AbortIdempotence := by
  refine fun s => ⟨goInactiveOp s, exec_goInactive s, goInactiveOp_txCounter s, goInactiveOp_checksum s,
    goInactiveOp_lastClockLevel s, goInactiveOp_dataLevel s, goInactiveOp_dataDir s, goInactiveOp_linkState s,
    goInactiveOp_debounceFlag s, goInactiveOp_rawFrame s, goInactiveOp (goInactiveOp s), exec_goInactive _, ?twice⟩
  case twice => rw [goInactiveOp_goInactiveOp]

end Sys2Proof.Machine
end

section
/-! POWER_ON and POR at any time (70_reset_and_hazards.md R140, R143), and a release report a stall aborts (R152). -/

namespace Sys2Proof.Machine

open Sys2Proof.Safety

/-! ### POWER_ON and POR (70_reset_and_hazards.md R140, R143) -/

/-- Settles O39: the record of POWER_ON, RawFrame being the free value it draws. -/
theorem powerOnState : Obligations.PowerOnState := fun s =>
  ⟨Config.powerOnFrame s.draws, 0, 0, false, false, s.draws + 1, by rw [exec_powerOn, powerOnOp_eq]⟩

/-- A scheduled POR is POWER_ON, performed on what is left of the core's own turn in its place. -/
theorem step_por {s : State} {k : Nat} {rest : List Turn} (h : s.schedule = .por k :: rest) :
    step s = .next (powerOnOp (abandon k { s with schedule := rest })) := by
  rw [step_eq, h]
  rfl

/-- Settles O45: the core's turn in POR's place is the core's move, whose first events and their answers `abandon` keeps
and uses up; POWER_ON writes every field of the core over them. -/
theorem porAbandonsEverything : Obligations.PorAbandonsEverything := by
  intro s k rest h
  refine ⟨coreMove { s with schedule := rest }, _, Config.powerOnFrame s.draws, 0, 0, false, false, s.draws + 1,
    step_core { s with schedule := rest }, rfl, ?_⟩
  rw [step_por h, powerOnOp_eq]
  rfl

/-! ### A release report that a stall aborts (70_reset_and_hazards.md R152) -/

/-- In `Capturing` with the clock high and readings that are suppressed a LINK_STEP is LNK.SUPP, and WAIT is next. -/
theorem servedWake_supp {t : State} {x y : Reading} {rest : List Reading} (hl : t.linkState = .capturing)
    (hc : t.clk = true) (ha : t.adcAnswers = x :: y :: rest) (hsupp : pack x y = 0 ∧ t.debounceFlag = false)
    (turns : List Turn) :
    servedWake turns t =
      { captured x y rest { t with wakePending := false, activity := .running, schedule := turns } with
        activity := .lowPowerWait } := by
  have hready := (captured_ready_eq_false_iff x y rest
    { t with wakePending := false, activity := .running, schedule := turns }).2 hsupp
  rw [servedWake, linkStepOp_captured (by exact hl) (by exact hc) (by exact ha),
    if_neg (by rw [hready]; exact Bool.false_ne_true)]
  exact endStep_returned _ (by simp [captured])

/-- Settles O60: of the three wakes the first finds the stall, the second re-arms the link, and the capture of the third
is suppressed, the flag of the release report being 0 already. The data line is low from the stall on, so that each
sample drives it low again. -/
theorem abortedReleaseIsNotRepeated : Obligations.AbortedReleaseIsNotRepeated := by
  intro s rest hl hw hf hc hlast ha hs
  have hsupp : pack 0 0 = 0 ∧ s.debounceFlag = false := ⟨by decide, hf⟩
  have hrun := run_wake hw hs 6
  rw [servedWake_stall hl (hc.trans hlast.symm), run_wake (n := 3) rfl rfl, servedWake_arm rfl (by exact hc),
    run_wake (n := 0) rfl rfl, servedWake_supp rfl (by exact hc) (by exact ha) (by exact hsupp),
    captured_of_suppressed rest (by exact hsupp)] at hrun
  exact ⟨_, hrun, rfl, rfl, hf, by simp [sampleEvents]⟩

end Sys2Proof.Machine
end
